-- ==== Sys2Proof/Word.lean ====
section
/-! DEFINITION. The words of the Edubot SSW-TICK block: the 32-bit register word, the fields of a host access, and the
words that travel on the block's ports (spec 00_scope R9, R14; 20_memory R200; 30_encoding R300). -/

namespace Sys2Proof

/-- A register, a command word, a binary32 pattern or an engine reply: 32 bits (R9, R207). -/
abbrev Word := BitVec 32

/-- One byte lane of a register word (R206). -/
abbrev Byte := BitVec 8

/-- A byte offset in the 4096-byte register window (R9, R201). -/
abbrev Offset := BitVec 12

/-- The byte-strobe mask of a host write (R16, R202). -/
abbrev Strobe := BitVec 4

/-- The strobe mask of a whole-word write, the only one the block accepts (R202). -/
abbrev fullStrobe : Strobe := 0xF#4

/-- The window a command selects with its W bit: VW (velocity) or DW (duty cycle) (R7, R15, R320). -/
inductive Win where
  /-- W = 0: the velocity window. -/
  | vw
  /-- W = 1: the duty-cycle window. -/
  | dw
deriving DecidableEq, Repr

/-- One host access: the BUS13 word {WR, OFF}, and for a write its STRB and WDATA (R301). A read carries neither. -/
inductive Access where
  /-- WR = 0: a read of the register at `off`. -/
  | read (off : Offset)
  /-- WR = 1: a write of `wdata` at `off` with byte-strobe mask `strb`. -/
  | write (off : Offset) (strb : Strobe) (wdata : Word)
deriving DecidableEq, Repr

/-- A word of one of the block's four formats (R300). Each format's width is fixed by the port it travels on, so the
port is part of the word and no bit of it selects the format. -/
inductive PortWord where
  /-- BUS13 with its data: a host access (R301). -/
  | host (a : Access)
  /-- CMD32: the command word a full-strobe write of CMD delivers (R320). -/
  | cmd (c : Word)
  /-- ENG35: an engine-port request (R330). -/
  | eng (w : BitVec 35)
  /-- PWM24: a PWM-port request (R340). -/
  | pwm (w : BitVec 24)
deriving DecidableEq, Repr

end Sys2Proof
end

