-- ==== Sys2Proof/Syntax.lean ====
section
/-! DEFINITION. The instruction set: one constructor per row of spec/opcode_table.json, in the table's order. The block's
"instruction set" is its command and access interface (00_scope R2): command words (CMD32, 42_commands), host register
accesses (BUS13, 43_register_access) and the port requests the sequencer issues (ENG35, PWM24, 41_tick). -/

namespace Sys2Proof

/-- One instruction of the block.

A host write carries its strobe mask and data, since a partial strobe is a bus error (R205). An engine request carries
EWDATA, which is 0 for every operation but SET_TARGET (R330; `Instr.wellFormed`). -/
inductive Instr where
  -- CMD32: the command words (R321).
  /-- NOP (R604). -/
  | nop
  /-- PUSH (R601). -/
  | push (w : Win)
  /-- MEAN (R602). -/
  | mean (w : Win)
  /-- STDDEV (R603). -/
  | stddev (w : Win)
  /-- SNAP (R605). -/
  | snap
  /-- CLEAR (R606). -/
  | clear (w : Win)
  /-- FORCE_TICK (R607). -/
  | forceTick
  -- BUS13: host register accesses (R302); `…Buserr` is a write to a read-only register (R702).
  /-- RD_ID (R701). -/
  | rdId
  /-- RD_CTRL (R703). -/
  | rdCtrl
  /-- RD_STATUS (R705). -/
  | rdStatus
  /-- RD_ERR_CAUSE (R707). -/
  | rdErrCause
  /-- RD_ERR_INFO (R709). -/
  | rdErrInfo
  /-- RD_IRQ_EN (R710). -/
  | rdIrqEn
  /-- RD_CFG (R713). -/
  | rdCfg
  /-- RD_PERIOD (R715). -/
  | rdPeriod
  /-- RD_TIMER (R717). -/
  | rdTimer
  /-- RD_TICK_COUNT (R718). -/
  | rdTickCount
  /-- RD_MISSED (R719). -/
  | rdMissed
  /-- RD_SETPOINT (R728). -/
  | rdSetpoint
  /-- RD_DATA (R730). -/
  | rdData
  /-- RD_CMD (R732). -/
  | rdCmd
  /-- RD_RESULT (R721). -/
  | rdResult
  /-- RD_LAST_OUT (R722). -/
  | rdLastOut
  /-- RD_LAST_PWM (R723). -/
  | rdLastPwm
  /-- RD_SNAP_VMEAN (R724). -/
  | rdSnapVmean
  /-- RD_SNAP_VSD (R725). -/
  | rdSnapVsd
  /-- RD_SNAP_DMEAN (R726). -/
  | rdSnapDmean
  /-- RD_SNAP_DSD (R727). -/
  | rdSnapDsd
  /-- RD_SNAP_TICK (R734). -/
  | rdSnapTick
  /-- RD_VW0 (R735). -/
  | rdVw0
  /-- RD_VW1 (R736). -/
  | rdVw1
  /-- RD_VW2 (R737). -/
  | rdVw2
  /-- RD_VW3 (R738). -/
  | rdVw3
  /-- RD_VW4 (R739). -/
  | rdVw4
  /-- RD_DW0 (R740). -/
  | rdDw0
  /-- RD_DW1 (R741). -/
  | rdDw1
  /-- RD_DW2 (R742). -/
  | rdDw2
  /-- RD_DW3 (R743). -/
  | rdDw3
  /-- RD_DW4 (R744). -/
  | rdDw4
  /-- WR_ID_BUSERR (R702). -/
  | wrIdBuserr (strb : Strobe) (wdata : Word)
  /-- WR_CTRL (R704). -/
  | wrCtrl (strb : Strobe) (wdata : Word)
  /-- WR_STATUS (R706). -/
  | wrStatus (strb : Strobe) (wdata : Word)
  /-- WR_ERR_CAUSE (R708). -/
  | wrErrCause (strb : Strobe) (wdata : Word)
  /-- WR_ERR_INFO_BUSERR (R702). -/
  | wrErrInfoBuserr (strb : Strobe) (wdata : Word)
  /-- WR_IRQ_EN (R711). -/
  | wrIrqEn (strb : Strobe) (wdata : Word)
  /-- WR_CFG (R714). -/
  | wrCfg (strb : Strobe) (wdata : Word)
  /-- WR_PERIOD (R716). -/
  | wrPeriod (strb : Strobe) (wdata : Word)
  /-- WR_TIMER_BUSERR (R702). -/
  | wrTimerBuserr (strb : Strobe) (wdata : Word)
  /-- WR_TICK_COUNT_BUSERR (R702). -/
  | wrTickCountBuserr (strb : Strobe) (wdata : Word)
  /-- WR_MISSED (R720). -/
  | wrMissed (strb : Strobe) (wdata : Word)
  /-- WR_SETPOINT (R729). -/
  | wrSetpoint (strb : Strobe) (wdata : Word)
  /-- WR_DATA (R731). -/
  | wrData (strb : Strobe) (wdata : Word)
  /-- WR_CMD (R733). -/
  | wrCmd (strb : Strobe) (wdata : Word)
  /-- WR_RESULT_BUSERR (R702). -/
  | wrResultBuserr (strb : Strobe) (wdata : Word)
  /-- WR_LAST_OUT_BUSERR (R702). -/
  | wrLastOutBuserr (strb : Strobe) (wdata : Word)
  /-- WR_LAST_PWM_BUSERR (R702). -/
  | wrLastPwmBuserr (strb : Strobe) (wdata : Word)
  /-- WR_SNAP_VMEAN_BUSERR (R702). -/
  | wrSnapVmeanBuserr (strb : Strobe) (wdata : Word)
  /-- WR_SNAP_VSD_BUSERR (R702). -/
  | wrSnapVsdBuserr (strb : Strobe) (wdata : Word)
  /-- WR_SNAP_DMEAN_BUSERR (R702). -/
  | wrSnapDmeanBuserr (strb : Strobe) (wdata : Word)
  /-- WR_SNAP_DSD_BUSERR (R702). -/
  | wrSnapDsdBuserr (strb : Strobe) (wdata : Word)
  /-- WR_SNAP_TICK_BUSERR (R702). -/
  | wrSnapTickBuserr (strb : Strobe) (wdata : Word)
  /-- WR_VW0_BUSERR (R702). -/
  | wrVw0Buserr (strb : Strobe) (wdata : Word)
  /-- WR_VW1_BUSERR (R702). -/
  | wrVw1Buserr (strb : Strobe) (wdata : Word)
  /-- WR_VW2_BUSERR (R702). -/
  | wrVw2Buserr (strb : Strobe) (wdata : Word)
  /-- WR_VW3_BUSERR (R702). -/
  | wrVw3Buserr (strb : Strobe) (wdata : Word)
  /-- WR_VW4_BUSERR (R702). -/
  | wrVw4Buserr (strb : Strobe) (wdata : Word)
  /-- WR_DW0_BUSERR (R702). -/
  | wrDw0Buserr (strb : Strobe) (wdata : Word)
  /-- WR_DW1_BUSERR (R702). -/
  | wrDw1Buserr (strb : Strobe) (wdata : Word)
  /-- WR_DW2_BUSERR (R702). -/
  | wrDw2Buserr (strb : Strobe) (wdata : Word)
  /-- WR_DW3_BUSERR (R702). -/
  | wrDw3Buserr (strb : Strobe) (wdata : Word)
  /-- WR_DW4_BUSERR (R702). -/
  | wrDw4Buserr (strb : Strobe) (wdata : Word)
  -- ENG35: engine-port requests, issued only by SEQ (R330).
  /-- E_REFRESH (R512). -/
  | eRefresh (ewdata : Word)
  /-- E_COMPUTE (R513). -/
  | eCompute (ewdata : Word)
  /-- E_SET_TARGET (R511). -/
  | eSetTarget (ewdata : Word)
  /-- E_GET_VEL (R516). -/
  | eGetVel (ewdata : Word)
  /-- E_GET_OUT (R514). -/
  | eGetOut (ewdata : Word)
  /-- E_GET_RAW (R517). -/
  | eGetRaw (ewdata : Word)
  -- PWM24: the PWM-port request, issued only by SEQ in phase PWMWR (R340).
  /-- PWM_WRITE (R515). -/
  | pwmWrite (pch : BitVec 8) (pval : BitVec 16)
deriving DecidableEq, Repr

end Sys2Proof
end

