-- ==== Sys2Proof/WellFormed.lean ====
section
/-! DEFINITION. Well-formed instructions: the operands the encodings admit (30_encoding R330). The operand types fix every
width, so one check is left: EWDATA is 0 for every engine operation but SET_TARGET. -/

namespace Sys2Proof

/-- "EWDATA: argument; 0 unless EOP = SET_TARGET" (R330). Every other operand is held to its width by its type. -/
def Instr.wellFormed : Instr → Bool
  | .eRefresh ewdata | .eCompute ewdata | .eGetVel ewdata | .eGetOut ewdata | .eGetRaw ewdata => ewdata == 0
  | .nop | .push _ | .mean _ | .stddev _ | .snap | .clear _
  | .forceTick | .rdId | .rdCtrl | .rdStatus | .rdErrCause | .rdErrInfo
  | .rdIrqEn | .rdCfg | .rdPeriod | .rdTimer | .rdTickCount | .rdMissed
  | .rdSetpoint | .rdData | .rdCmd | .rdResult | .rdLastOut | .rdLastPwm
  | .rdSnapVmean | .rdSnapVsd | .rdSnapDmean | .rdSnapDsd | .rdSnapTick | .rdVw0
  | .rdVw1 | .rdVw2 | .rdVw3 | .rdVw4 | .rdDw0 | .rdDw1
  | .rdDw2 | .rdDw3 | .rdDw4 | .wrIdBuserr _ _ | .wrCtrl _ _ | .wrStatus _ _
  | .wrErrCause _ _ | .wrErrInfoBuserr _ _ | .wrIrqEn _ _ | .wrCfg _ _ | .wrPeriod _ _ | .wrTimerBuserr _ _
  | .wrTickCountBuserr _ _ | .wrMissed _ _ | .wrSetpoint _ _ | .wrData _ _ | .wrCmd _ _ | .wrResultBuserr _ _
  | .wrLastOutBuserr _ _ | .wrLastPwmBuserr _ _ | .wrSnapVmeanBuserr _ _ | .wrSnapVsdBuserr _ _ | .wrSnapDmeanBuserr _ _ | .wrSnapDsdBuserr _ _
  | .wrSnapTickBuserr _ _ | .wrVw0Buserr _ _ | .wrVw1Buserr _ _ | .wrVw2Buserr _ _ | .wrVw3Buserr _ _ | .wrVw4Buserr _ _
  | .wrDw0Buserr _ _ | .wrDw1Buserr _ _ | .wrDw2Buserr _ _ | .wrDw3Buserr _ _ | .wrDw4Buserr _ _ | .eSetTarget _
  | .pwmWrite _ _ => true

end Sys2Proof
end

