-- ==== Sys2Proof/Decode.lean ====
section
/-! DEFINITION. Decoding and encoding (30_encoding). The decoder is total on every word of every port: it answers an
instruction, or names why the word is no instruction. After it the encoder, from the same tables. -/

namespace Sys2Proof

/-- Why a port word is no instruction of the block. -/
inductive DecodeError where
  /-- A host access with OFF[1:0] != 0 (R203, R303). -/
  | misaligned
  /-- A host access at an aligned offset that belongs to no register (R204, R303). -/
  | unmapped
  /-- A command word with a bit of Z set (R322 (a)). -/
  | cmdZ
  /-- A command word with OP in 0x7 to 0xF (R322 (b)). -/
  | cmdOp
  /-- NOP, SNAP or FORCE_TICK with W = 1 (R322 (c)). -/
  | cmdW
  /-- An engine request with EOP 6 or 7, never issued (R330, I12). -/
  | engOp
  /-- An engine request other than SET_TARGET with EWDATA != 0, never issued (R330). -/
  | engData
deriving DecidableEq, Repr

/-- The W bit's window (R320): 0 = VW, 1 = DW. -/
def Win.ofBit (w : BitVec 1) : Win := if w = 1#1 then .dw else .vw

/-- The window's W bit (R320). -/
def Win.bit : Win → BitVec 1
  | .vw => 0#1
  | .dw => 1#1

/-! ## BUS13: host accesses (R302) -/

/-- The BUS13 word of a read at `off`: {WR = 0, OFF} (R301). -/
def bus13Read (off : Offset) : BitVec 13 := 0#1 ++ off

/-- The BUS13 word of a write at `off`: {WR = 1, OFF} (R301). -/
def bus13Write (off : Offset) : BitVec 13 := 1#1 ++ off

/-- What an aligned read decodes to: the read column of R302's map. -/
def decodeReadAt (off : Offset) : Except DecodeError Instr :=
  match off with
  | 0x000#12 => .ok .rdId
  | 0x004#12 => .ok .rdCtrl
  | 0x008#12 => .ok .rdStatus
  | 0x00C#12 => .ok .rdErrCause
  | 0x010#12 => .ok .rdErrInfo
  | 0x014#12 => .ok .rdIrqEn
  | 0x018#12 => .ok .rdCfg
  | 0x01C#12 => .ok .rdPeriod
  | 0x020#12 => .ok .rdTimer
  | 0x024#12 => .ok .rdTickCount
  | 0x028#12 => .ok .rdMissed
  | 0x02C#12 => .ok .rdSetpoint
  | 0x030#12 => .ok .rdData
  | 0x034#12 => .ok .rdCmd
  | 0x038#12 => .ok .rdResult
  | 0x03C#12 => .ok .rdLastOut
  | 0x040#12 => .ok .rdLastPwm
  | 0x044#12 => .ok .rdSnapVmean
  | 0x048#12 => .ok .rdSnapVsd
  | 0x04C#12 => .ok .rdSnapDmean
  | 0x050#12 => .ok .rdSnapDsd
  | 0x054#12 => .ok .rdSnapTick
  | 0x060#12 => .ok .rdVw0
  | 0x064#12 => .ok .rdVw1
  | 0x068#12 => .ok .rdVw2
  | 0x06C#12 => .ok .rdVw3
  | 0x070#12 => .ok .rdVw4
  | 0x080#12 => .ok .rdDw0
  | 0x084#12 => .ok .rdDw1
  | 0x088#12 => .ok .rdDw2
  | 0x08C#12 => .ok .rdDw3
  | 0x090#12 => .ok .rdDw4
  | _ => .error .unmapped

/-- What an aligned write decodes to: the write column of R302's map, where a read-only register's write is the bus error
the opcode table gives a row of its own (R702). -/
def decodeWriteAt (off : Offset) (strb : Strobe) (wdata : Word) : Except DecodeError Instr :=
  match off with
  | 0x000#12 => .ok (.wrIdBuserr strb wdata)
  | 0x004#12 => .ok (.wrCtrl strb wdata)
  | 0x008#12 => .ok (.wrStatus strb wdata)
  | 0x00C#12 => .ok (.wrErrCause strb wdata)
  | 0x010#12 => .ok (.wrErrInfoBuserr strb wdata)
  | 0x014#12 => .ok (.wrIrqEn strb wdata)
  | 0x018#12 => .ok (.wrCfg strb wdata)
  | 0x01C#12 => .ok (.wrPeriod strb wdata)
  | 0x020#12 => .ok (.wrTimerBuserr strb wdata)
  | 0x024#12 => .ok (.wrTickCountBuserr strb wdata)
  | 0x028#12 => .ok (.wrMissed strb wdata)
  | 0x02C#12 => .ok (.wrSetpoint strb wdata)
  | 0x030#12 => .ok (.wrData strb wdata)
  | 0x034#12 => .ok (.wrCmd strb wdata)
  | 0x038#12 => .ok (.wrResultBuserr strb wdata)
  | 0x03C#12 => .ok (.wrLastOutBuserr strb wdata)
  | 0x040#12 => .ok (.wrLastPwmBuserr strb wdata)
  | 0x044#12 => .ok (.wrSnapVmeanBuserr strb wdata)
  | 0x048#12 => .ok (.wrSnapVsdBuserr strb wdata)
  | 0x04C#12 => .ok (.wrSnapDmeanBuserr strb wdata)
  | 0x050#12 => .ok (.wrSnapDsdBuserr strb wdata)
  | 0x054#12 => .ok (.wrSnapTickBuserr strb wdata)
  | 0x060#12 => .ok (.wrVw0Buserr strb wdata)
  | 0x064#12 => .ok (.wrVw1Buserr strb wdata)
  | 0x068#12 => .ok (.wrVw2Buserr strb wdata)
  | 0x06C#12 => .ok (.wrVw3Buserr strb wdata)
  | 0x070#12 => .ok (.wrVw4Buserr strb wdata)
  | 0x080#12 => .ok (.wrDw0Buserr strb wdata)
  | 0x084#12 => .ok (.wrDw1Buserr strb wdata)
  | 0x088#12 => .ok (.wrDw2Buserr strb wdata)
  | 0x08C#12 => .ok (.wrDw3Buserr strb wdata)
  | 0x090#12 => .ok (.wrDw4Buserr strb wdata)
  | _ => .error .unmapped

/-- A host access decoded by R302, alignment first (R205 (1) before (2)). -/
def decodeAccess : Access → Except DecodeError Instr
  | .read off => if off.extractLsb' 0 2 = 0#2 then decodeReadAt off else .error .misaligned
  | .write off strb wdata =>
    if off.extractLsb' 0 2 = 0#2 then decodeWriteAt off strb wdata else .error .misaligned

/-! ## CMD32: command words (R320 to R322) -/

/-- The operation of a command word whose Z is 0, by its OP and W fields (R321). -/
def decodeCmdOp (op : BitVec 4) (w : BitVec 1) : Except DecodeError Instr :=
  match op with
  | 0x0#4 => if w = 0#1 then .ok .nop else .error .cmdW
  | 0x1#4 => .ok (.push (Win.ofBit w))
  | 0x2#4 => .ok (.mean (Win.ofBit w))
  | 0x3#4 => .ok (.stddev (Win.ofBit w))
  | 0x4#4 => if w = 0#1 then .ok .snap else .error .cmdW
  | 0x5#4 => .ok (.clear (Win.ofBit w))
  | 0x6#4 => if w = 0#1 then .ok .forceTick else .error .cmdW
  | _ => .error .cmdOp

/-- A command word {Z[31:5], W[4], OP[3:0]} (R320). -/
def decodeCmd (c : Word) : Except DecodeError Instr :=
  if c.extractLsb' 5 27 = 0#27 then decodeCmdOp (c.extractLsb' 0 4) (c.extractLsb' 4 1) else .error .cmdZ

/-! ## ENG35 and PWM24: port requests (R330, R340) -/

/-- An engine operation that takes no argument: EWDATA must be 0 (R330). -/
def engNoData (i : Instr) (ewdata : Word) : Except DecodeError Instr :=
  if ewdata = 0#32 then .ok i else .error .engData

/-- An engine request {EOP[34:32], EWDATA[31:0]} (R330). -/
def decodeEng (w : BitVec 35) : Except DecodeError Instr :=
  let ewdata : Word := w.extractLsb' 0 32
  match w.extractLsb' 32 3 with
  | 0#3 => engNoData (.eRefresh ewdata) ewdata
  | 1#3 => engNoData (.eCompute ewdata) ewdata
  | 2#3 => .ok (.eSetTarget ewdata)
  | 3#3 => engNoData (.eGetVel ewdata) ewdata
  | 4#3 => engNoData (.eGetOut ewdata) ewdata
  | 5#3 => engNoData (.eGetRaw ewdata) ewdata
  | _ => .error .engOp

/-- A PWM request {PCH[23:16], PVAL[15:0]}: every word is one (R340). -/
def decodePwm (w : BitVec 24) : Except DecodeError Instr :=
  .ok (.pwmWrite (w.extractLsb' 16 8) (w.extractLsb' 0 16))

/-! ## The decoder -/

/-- The instruction a port word stands for, or why it stands for none. Total on every word. -/
def decode : PortWord → Except DecodeError Instr
  | .host a => decodeAccess a
  | .cmd c => decodeCmd c
  | .eng w => decodeEng w
  | .pwm w => decodePwm w

/-- What the block runs for a host access. A full-strobe write of CMD delivers a command word, which acts at that write
(R215, R600): where the word is a command, that command is the instruction. Every other access decodes by R302; an illegal
command word stays the CMD write that raises CMD_ILLEGAL (R608). -/
def decodeHost (a : Access) : Except DecodeError Instr :=
  match a with
  | .read off => decodeAccess (.read off)
  | .write off strb wdata =>
    if off = 0x034#12 ∧ strb = fullStrobe then
      match decodeCmd wdata with
      | .ok i => .ok i
      | .error _ => .ok (.wrCmd strb wdata)
    else decodeAccess (.write off strb wdata)

/-! ## The encoder -/

/-- The command word of operation `op` on the window bit `w`: {Z = 0, W, OP} (R320). -/
def cmdWord (w : BitVec 1) (op : BitVec 4) : Word := 0#27 ++ w ++ op

/-- The engine request word {EOP, EWDATA} (R330). -/
def engWord (eop : BitVec 3) (ewdata : Word) : BitVec 35 := eop ++ ewdata

/-- The PWM request word {PCH, PVAL} (R340). -/
def pwmWord (pch : BitVec 8) (pval : BitVec 16) : BitVec 24 := pch ++ pval

/-- The word of an instruction, on the port that carries it (R301, R321, R330, R340). -/
def encode : Instr → PortWord
  | .nop => .cmd (cmdWord 0#1 0x0#4)
  | .push w => .cmd (cmdWord w.bit 0x1#4)
  | .mean w => .cmd (cmdWord w.bit 0x2#4)
  | .stddev w => .cmd (cmdWord w.bit 0x3#4)
  | .snap => .cmd (cmdWord 0#1 0x4#4)
  | .clear w => .cmd (cmdWord w.bit 0x5#4)
  | .forceTick => .cmd (cmdWord 0#1 0x6#4)
  | .rdId => .host (.read 0x000#12)
  | .rdCtrl => .host (.read 0x004#12)
  | .rdStatus => .host (.read 0x008#12)
  | .rdErrCause => .host (.read 0x00C#12)
  | .rdErrInfo => .host (.read 0x010#12)
  | .rdIrqEn => .host (.read 0x014#12)
  | .rdCfg => .host (.read 0x018#12)
  | .rdPeriod => .host (.read 0x01C#12)
  | .rdTimer => .host (.read 0x020#12)
  | .rdTickCount => .host (.read 0x024#12)
  | .rdMissed => .host (.read 0x028#12)
  | .rdSetpoint => .host (.read 0x02C#12)
  | .rdData => .host (.read 0x030#12)
  | .rdCmd => .host (.read 0x034#12)
  | .rdResult => .host (.read 0x038#12)
  | .rdLastOut => .host (.read 0x03C#12)
  | .rdLastPwm => .host (.read 0x040#12)
  | .rdSnapVmean => .host (.read 0x044#12)
  | .rdSnapVsd => .host (.read 0x048#12)
  | .rdSnapDmean => .host (.read 0x04C#12)
  | .rdSnapDsd => .host (.read 0x050#12)
  | .rdSnapTick => .host (.read 0x054#12)
  | .rdVw0 => .host (.read 0x060#12)
  | .rdVw1 => .host (.read 0x064#12)
  | .rdVw2 => .host (.read 0x068#12)
  | .rdVw3 => .host (.read 0x06C#12)
  | .rdVw4 => .host (.read 0x070#12)
  | .rdDw0 => .host (.read 0x080#12)
  | .rdDw1 => .host (.read 0x084#12)
  | .rdDw2 => .host (.read 0x088#12)
  | .rdDw3 => .host (.read 0x08C#12)
  | .rdDw4 => .host (.read 0x090#12)
  | .wrIdBuserr strb wdata => .host (.write 0x000#12 strb wdata)
  | .wrCtrl strb wdata => .host (.write 0x004#12 strb wdata)
  | .wrStatus strb wdata => .host (.write 0x008#12 strb wdata)
  | .wrErrCause strb wdata => .host (.write 0x00C#12 strb wdata)
  | .wrErrInfoBuserr strb wdata => .host (.write 0x010#12 strb wdata)
  | .wrIrqEn strb wdata => .host (.write 0x014#12 strb wdata)
  | .wrCfg strb wdata => .host (.write 0x018#12 strb wdata)
  | .wrPeriod strb wdata => .host (.write 0x01C#12 strb wdata)
  | .wrTimerBuserr strb wdata => .host (.write 0x020#12 strb wdata)
  | .wrTickCountBuserr strb wdata => .host (.write 0x024#12 strb wdata)
  | .wrMissed strb wdata => .host (.write 0x028#12 strb wdata)
  | .wrSetpoint strb wdata => .host (.write 0x02C#12 strb wdata)
  | .wrData strb wdata => .host (.write 0x030#12 strb wdata)
  | .wrCmd strb wdata => .host (.write 0x034#12 strb wdata)
  | .wrResultBuserr strb wdata => .host (.write 0x038#12 strb wdata)
  | .wrLastOutBuserr strb wdata => .host (.write 0x03C#12 strb wdata)
  | .wrLastPwmBuserr strb wdata => .host (.write 0x040#12 strb wdata)
  | .wrSnapVmeanBuserr strb wdata => .host (.write 0x044#12 strb wdata)
  | .wrSnapVsdBuserr strb wdata => .host (.write 0x048#12 strb wdata)
  | .wrSnapDmeanBuserr strb wdata => .host (.write 0x04C#12 strb wdata)
  | .wrSnapDsdBuserr strb wdata => .host (.write 0x050#12 strb wdata)
  | .wrSnapTickBuserr strb wdata => .host (.write 0x054#12 strb wdata)
  | .wrVw0Buserr strb wdata => .host (.write 0x060#12 strb wdata)
  | .wrVw1Buserr strb wdata => .host (.write 0x064#12 strb wdata)
  | .wrVw2Buserr strb wdata => .host (.write 0x068#12 strb wdata)
  | .wrVw3Buserr strb wdata => .host (.write 0x06C#12 strb wdata)
  | .wrVw4Buserr strb wdata => .host (.write 0x070#12 strb wdata)
  | .wrDw0Buserr strb wdata => .host (.write 0x080#12 strb wdata)
  | .wrDw1Buserr strb wdata => .host (.write 0x084#12 strb wdata)
  | .wrDw2Buserr strb wdata => .host (.write 0x088#12 strb wdata)
  | .wrDw3Buserr strb wdata => .host (.write 0x08C#12 strb wdata)
  | .wrDw4Buserr strb wdata => .host (.write 0x090#12 strb wdata)
  | .eRefresh ewdata => .eng (engWord 0#3 ewdata)
  | .eCompute ewdata => .eng (engWord 1#3 ewdata)
  | .eSetTarget ewdata => .eng (engWord 2#3 ewdata)
  | .eGetVel ewdata => .eng (engWord 3#3 ewdata)
  | .eGetOut ewdata => .eng (engWord 4#3 ewdata)
  | .eGetRaw ewdata => .eng (engWord 5#3 ewdata)
  | .pwmWrite pch pval => .pwm (pwmWord pch pval)

/-! ## Words numbered as the opcode table numbers them -/

/-- The port word whose bits are `w`, where the table gives its row `nbits` bits in whole bytes: 16 for BUS13, 24 for PWM24,
32 for CMD32, 40 for ENG35. The bits above are 0, so a BUS13 write has STRB = 0 and WDATA = 0. A number with a bit set above
its format's width is no word of the port. -/
def tableWord (nbits w : Nat) : Option PortWord :=
  if nbits = 16 then
    if w < 2 ^ 12 then some (.host (.read (BitVec.ofNat 12 w)))
    else if w < 2 ^ 13 then some (.host (.write (BitVec.ofNat 12 w) 0#4 0#32))
    else none
  else if nbits = 24 then if w < 2 ^ 24 then some (.pwm (BitVec.ofNat 24 w)) else none
  else if nbits = 32 then if w < 2 ^ 32 then some (.cmd (BitVec.ofNat 32 w)) else none
  else if nbits = 40 then if w < 2 ^ 35 then some (.eng (BitVec.ofNat 35 w)) else none
  else none

/-- The instruction the decoder reads from a word of the opcode table: its bits `w`, bit 0 the least significant, in a row
of `nbits` bits; none where it refuses. -/
def decodeTableWord (nbits w : Nat) : Option Instr :=
  match tableWord nbits w with
  | none => none
  | some p =>
    match decode p with
    | .ok i => some i
    | .error _ => none

end Sys2Proof
end

