-- ==== Sys2Proof/Config.lean ====
section
/-! DEFINITION. What an implementation fixes and the spec leaves OPEN (00_scope R10, 92_eei_decisions "Parameters left
OPEN"), and the one free value of the model. All are opaque: no proof can see what they are. -/

namespace Sys2Proof.Config

/-- One less than `P_CLK_HZ`, the block clock frequency, which is > 0 (R10, D18). -/
opaque pClkHzPred : Nat

/-- `P_CLK_HZ`, the block clock frequency in Hz (R10). No functional rule depends on it (I18). -/
def pClkHz : Nat := pClkHzPred + 1

/-- `P_PERIOD_RST`, the reset value of PERIOD: any 32-bit value (R10, R108). -/
opaque pPeriodRst : Word

/-- The default of `P_PERIOD_RST`: floor(P_CLK_HZ / 50), the reference 50 Hz (R10). A named value beside the parameter:
nothing says an implementation takes it. -/
def pPeriodDefault : Nat := pClkHz / 50

/-- `P_BASE` / 4096: the base of the register window is a multiple of 4096 (R201). -/
opaque pBasePage : Nat

/-- `P_BASE`, the host byte address of the register window (R10, R201). -/
def pBase : Nat := 4096 * pBasePage

/-- `P_CMD_LAT`, the bus wait states of a CMD write: timing only (R10, R940, I18). -/
opaque pCmdLat : Nat

/-- One less than `P_RST_CYCLES`, which is at least 1 (D26). -/
opaque pRstCyclesPred : Nat

/-- `P_RST_CYCLES`, the least number of clock cycles `rst_n` must be held low (R900). -/
def pRstCycles : Nat := pRstCyclesPred + 1

/-- FREE VALUE: the draw a read of TIMER returns while the timer runs in a model without time, before it is brought into
the range R504 gives (R504, I4). Applied to the counter `Env.draws`, so every read is a fresh draw. -/
opaque timerDraw : Nat → Word

end Sys2Proof.Config
end

