-- ==== Sys2Proof/Machine/State.lean ====
section
/-! DEFINITION. The state of the machine (10_state): `Block` is everything the spec gives the block (R100, R140), `Env` is
the model's own: what the agents outside the block present to it, and what they have seen of it. Plain data throughout. -/

namespace Sys2Proof.Machine

/-- The sequencer phase (R130). Codes 9 to 15 are never reached and have no constructor. -/
inductive Phase where
  /-- 0: no tick in progress. -/
  | idle
  /-- 1: `setTargetVelocity(SETPOINT)`. -/
  | settgt
  /-- 2: `refreshState()`. -/
  | refresh
  /-- 3: `computeOutput()`. -/
  | compute
  /-- 4: `getControllerOutput()`. -/
  | getout
  /-- 5: `setDutyCycle(PWM_CH, value)`. -/
  | pwmwr
  /-- 6: `getVelocity()`. -/
  | getvel
  /-- 7: `getControllerRawOutput()`. -/
  | getraw
  /-- 8: push both windows, update the counters. -/
  | commit
deriving DecidableEq, Repr

/-- The error causes ERR_CAUSE.CAUSE holds (R800). The codes 8 to 15 are never produced (R104, I11) and have no
constructor. -/
inductive Cause where
  /-- 0: no error recorded. -/
  | noError
  /-- 1: an illegal or reserved command word. -/
  | cmdIllegal
  /-- 2: PUSH, CLEAR or FORCE_TICK while CTRL.TICK_EN = 1. -/
  | cmdOwnership
  /-- 3: PUSH, CLEAR or FORCE_TICK while STATUS.BUSY = 1. -/
  | cmdBusy
  /-- 4: a full-strobe write of CFG or PERIOD while locked. -/
  | cfgLocked
  /-- 5: a misaligned, unmapped, partial-strobe or read-only-write access. -/
  | busError
  /-- 6: a timer event while STATUS.BUSY = 1. -/
  | tickOverrun
  /-- 7: an engine output outside [0, CFG.PWM_MAX]. -/
  | pwmSaturated
deriving DecidableEq, Repr

/-- One bit for each event source, at bits 2 to 7 of both STATUS (the sticky bits, R103) and IRQ_EN (R106). The other bits
of IRQ_EN are reserved and hold nothing. -/
structure EventBits where
  /-- bit 2: TICK_DONE -/
  tickDone : Bool
  /-- bit 3: OVERRUN -/
  overrun : Bool
  /-- bit 4: CMD_ERR -/
  cmdErr : Bool
  /-- bit 5: CFG_ERR -/
  cfgErr : Bool
  /-- bit 6: BUS_ERR -/
  busErr : Bool
  /-- bit 7: PWM_SAT -/
  pwmSat : Bool
deriving DecidableEq, Repr

/-- CFG (R107): its three fields; bits 15:9 are reserved and hold nothing. -/
structure Cfg where
  /-- [7:0] PWM_CH: the channel of every PWM write. -/
  pwmCh : BitVec 8
  /-- [8] DUTY_SRC: false (0) the engine's raw output, true (1) the PWM value sent. -/
  dutySrc : Bool
  /-- [31:16] PWM_MAX: the largest value sent to PWM. -/
  pwmMax : BitVec 16
deriving DecidableEq, Repr

/-- A window: exactly five binary32 slots, slot 0 the oldest, slot 4 the newest (R6, R122, R400). -/
structure Window where
  s0 : Word
  s1 : Word
  s2 : Word
  s3 : Word
  s4 : Word
deriving DecidableEq, Repr

/-- All the architectural state of the block (R100, R140), and the request word R331 makes it hold. ID is a constant, CMD holds nothing (R114), and STATUS.BUSY,
STATUS.PHASE, `irq` and the two request lines are functions of what stands here (R130, R131, R134, R331). -/
structure Block where
  /-- CTRL.TICK_EN (R102); the other bits of CTRL are reserved. -/
  tickEn : Bool
  /-- `phase`, seen as STATUS.PHASE (R130). -/
  phase : Phase
  /-- SP_PENDING, seen as STATUS bit 1 (R132). -/
  spPending : Bool
  /-- STATUS bits 2 to 7 (R103). -/
  sticky : EventBits
  /-- ERR_CAUSE.CAUSE (R104). -/
  errCause : Cause
  /-- ERR_INFO (R105). -/
  errInfo : Word
  /-- IRQ_EN bits 2 to 7 (R106). -/
  irqEn : EventBits
  /-- CFG (R107). -/
  cfg : Cfg
  /-- PERIOD (R108). -/
  period : Word
  /-- TIMER (R109). -/
  timer : Word
  /-- TICK_COUNT (R110). -/
  tickCount : Word
  /-- MISSED (R111). -/
  missed : Word
  /-- SETPOINT, a binary32 pattern (R112). -/
  setpoint : Word
  /-- DATA, the operand of PUSH (R113). -/
  data : Word
  /-- RESULT of the last MEAN or STDDEV (R115). -/
  result : Word
  /-- LAST_OUT (R116). -/
  lastOut : Word
  /-- LAST_PWM (R117). -/
  lastPwm : Word
  /-- SNAP_VMEAN (R118). -/
  snapVmean : Word
  /-- SNAP_VSD (R118). -/
  snapVsd : Word
  /-- SNAP_DMEAN (R118). -/
  snapDmean : Word
  /-- SNAP_DSD (R118). -/
  snapDsd : Word
  /-- SNAP_TICK (R119). -/
  snapTick : Word
  /-- VW0..VW4, the velocity window (R120). -/
  vw : Window
  /-- DW0..DW4, the duty-cycle window (R121). -/
  dw : Window
  /-- L_OUT, the raw integer output read at GETOUT (R133). -/
  lOut : Word
  /-- L_PWM, the value sent at PWMWR (R133). -/
  lPwm : BitVec 16
  /-- L_VEL, the velocity read at GETVEL (R133). -/
  lVel : Word
  /-- L_DUTY, the value COMMIT pushes into DW (R133). -/
  lDuty : Word
  /-- The SETPOINT that the SET_TARGET request standing on the engine port carries, once the host has written SETPOINT again
  while that request waits: the word is held stable until the acknowledge (R331), and the write waits for the next tick
  (R524, C7). `none` while the request, if any, carries SETPOINT itself (DEDUCED, assumption 19). -/
  heldTarget : Option Word
deriving DecidableEq, Repr

/-- One step of one agent (R13), as the outside world presents it. The order of these in `Env.agenda` is the interleaving,
which the spec leaves open (I7): a statement about every agenda is a statement about every interleaving. -/
inductive Event where
  /-- HOST performs one register access (R13, R208). -/
  | host (a : Access)
  /-- TIMER steps: one rising clock edge where the run counts time (R501), one timer event where it does not (R504). -/
  | timer
  /-- SEQ performs its phase; the collaborator it asks acknowledges with `reply` on ERDATA, a draw under no law (R17, I1). -/
  | seq (reply : Word)
  /-- `rst_n` is held low for `cycles` clock cycles (R900). -/
  | reset (cycles : Nat)
deriving DecidableEq, Repr

/-- What the bus last answered the host (R16, R205). -/
inductive BusResp where
  /-- No access has completed yet. -/
  | silent
  /-- The access was performed; a read returned this value. -/
  | done (rdata : Option Word)
  /-- The error response; a read returned this value, which is 0. -/
  | error (rdata : Option Word)
deriving DecidableEq, Repr

/-- THE MODEL'S OWN part of the state: nothing of it is state of the block (R135). -/
structure Env where
  /-- The agent steps still to come, next first. -/
  agenda : List Event
  /-- Which of the spec's two descriptions of time the run follows: true the clock edges of R501, false the timeless timer
  of R504. -/
  timed : Bool
  /-- How many draws `Config.timerDraw` has given: the counter that makes each draw fresh. -/
  draws : Nat
  /-- The engine's reply lines ERDATA[31:0], as last sampled (R330, R331). -/
  erdata : Word
  /-- The last bus response. -/
  resp : BusResp
  /-- The ENG35 requests the engine has acknowledged, newest first (R330). -/
  engLog : List (BitVec 35)
  /-- The PWM24 requests the PWM driver has acknowledged, newest first (R340). -/
  pwmLog : List (BitVec 24)
deriving DecidableEq, Repr

/-- The whole state: the block, and what the model keeps beside it. -/
structure State where
  blk : Block
  env : Env
deriving DecidableEq, Repr

/-- The faults of the machine: NONE. The spec gives every access, command, request and agent step an effect; its errors
are recorded in STATUS and ERR_CAUSE, and the block goes on (R802, R823). No one raises a fault, so nothing is safe or
unsafe by one. -/
inductive Fault where
deriving DecidableEq, Repr

/-- The refusals of the machine. -/
inductive Refusal where
  /-- Raised by `exec` for an instruction without a meaning; this model has none left. Safe: the machine stops. -/
  | notModelled (mnemonic : String)
  /-- Raised by a reset event shorter than `P_RST_CYCLES`: "a precondition of the environment. The state after such a pulse
  is not specified" (I14). Safe: the machine stops. -/
  | resetPulseTooShort
deriving DecidableEq, Repr

/-- No event bit set. -/
def EventBits.zero : EventBits :=
  { tickDone := false, overrun := false, cmdErr := false, cfgErr := false, busErr := false, pwmSat := false }

/-- Five slots of +0.0. -/
def Window.zero : Window := { s0 := 0#32, s1 := 0#32, s2 := 0#32, s3 := 0#32, s4 := 0#32 }

/-- The block after reset, every value from R140. -/
def Block.reset : Block :=
  { tickEn := false, phase := .idle, spPending := true, sticky := EventBits.zero
    errCause := .noError, errInfo := 0#32, irqEn := EventBits.zero
    cfg := { pwmCh := 0#8, dutySrc := false, pwmMax := 0xFFFF#16 }
    period := Config.pPeriodRst, timer := 0#32, tickCount := 0#32, missed := 0#32
    setpoint := 0#32, data := 0#32, result := 0#32, lastOut := 0#32, lastPwm := 0#32
    snapVmean := 0#32, snapVsd := 0#32, snapDmean := 0#32, snapDsd := 0#32, snapTick := 0#32
    vw := Window.zero, dw := Window.zero, lOut := 0#32, lPwm := 0#16, lVel := 0#32, lDuty := 0#32
    heldTarget := none }

/-- The machine right after reset: the block by R140; nothing presented to it and nothing seen of it yet. The values of
`Env` are the model's (DESIGN CHOICE, assumption 3). -/
def State.reset : State :=
  { blk := Block.reset
    env := { agenda := [], timed := false, draws := 0, erdata := 0#32, resp := .silent, engLog := [], pwmLog := [] } }

end Sys2Proof.Machine
end

