-- ==== Sys2Proof/Machine/Flags.lean ====
section
/-! DEFINITION. The flags: STATUS and its sticky bits, the interrupt enables, the codes seen in them, and the interrupt line
(10_state R103, R106, R130, R131, R134; 60_exceptions R800, R820). -/

namespace Sys2Proof.Machine

/-- The phase codes (R130). -/
def Phase.code : Phase → BitVec 4
  | .idle => 0#4
  | .settgt => 1#4
  | .refresh => 2#4
  | .compute => 3#4
  | .getout => 4#4
  | .pwmwr => 5#4
  | .getvel => 6#4
  | .getraw => 7#4
  | .commit => 8#4

/-- The cause codes (R800). -/
def Cause.code : Cause → BitVec 4
  | .noError => 0#4
  | .cmdIllegal => 1#4
  | .cmdOwnership => 2#4
  | .cmdBusy => 3#4
  | .cfgLocked => 4#4
  | .busError => 5#4
  | .tickOverrun => 6#4
  | .pwmSaturated => 7#4

/-- The event bits as a register word, each at its STATUS position, every other bit 0 (R103, R106). -/
def EventBits.toWord (e : EventBits) : Word :=
  0#24 ++ BitVec.ofBool e.pwmSat ++ BitVec.ofBool e.busErr ++ BitVec.ofBool e.cfgErr ++ BitVec.ofBool e.cmdErr
    ++ BitVec.ofBool e.overrun ++ BitVec.ofBool e.tickDone ++ 0#2

/-- Bits 2 to 7 of a written word; the other bits are ignored (R106, R706). -/
def EventBits.ofWord (w : Word) : EventBits :=
  { tickDone := w.getLsbD 2, overrun := w.getLsbD 3, cmdErr := w.getLsbD 4
    cfgErr := w.getLsbD 5, busErr := w.getLsbD 6, pwmSat := w.getLsbD 7 }

/-- Write 1 to clear (R706): a bit stays set only where `mask` has 0. -/
def EventBits.clear (e mask : EventBits) : EventBits :=
  { tickDone := e.tickDone && !mask.tickDone, overrun := e.overrun && !mask.overrun
    cmdErr := e.cmdErr && !mask.cmdErr, cfgErr := e.cfgErr && !mask.cfgErr
    busErr := e.busErr && !mask.busErr, pwmSat := e.pwmSat && !mask.pwmSat }

/-- The STATUS bit of a cause set (R800's table); NONE is never raised and sets nothing. -/
def EventBits.mark (e : EventBits) : Cause → EventBits
  | .noError => e
  | .cmdIllegal | .cmdOwnership | .cmdBusy => { e with cmdErr := true }
  | .cfgLocked => { e with cfgErr := true }
  | .busError => { e with busErr := true }
  | .tickOverrun => { e with overrun := true }
  | .pwmSaturated => { e with pwmSat := true }

/-- Some event both set and enabled. -/
def EventBits.meets (e en : EventBits) : Bool :=
  e.tickDone && en.tickDone || e.overrun && en.overrun || e.cmdErr && en.cmdErr
    || e.cfgErr && en.cfgErr || e.busErr && en.busErr || e.pwmSat && en.pwmSat

/-- STATUS.BUSY: "(phase != IDLE)", a tick in progress (R131). -/
def Block.busy (b : Block) : Bool := b.phase != .idle

/-- The STATUS word (R103, R705). -/
def Block.statusWord (b : Block) : Word :=
  0#20 ++ b.phase.code ++ BitVec.ofBool b.sticky.pwmSat ++ BitVec.ofBool b.sticky.busErr
    ++ BitVec.ofBool b.sticky.cfgErr ++ BitVec.ofBool b.sticky.cmdErr ++ BitVec.ofBool b.sticky.overrun
    ++ BitVec.ofBool b.sticky.tickDone ++ BitVec.ofBool b.spPending ++ BitVec.ofBool b.busy

/-- `irq`, level-sensitive and active high: an enabled sticky bit is set (R820). -/
def Block.irq (b : Block) : Bool := b.sticky.meets b.irqEn

end Sys2Proof.Machine
end

