-- ==== Sys2Proof/Machine/Operands.lean ====
section
/-! DEFINITION. The operand forms: the window a command selects, the fields of a written word, the value of each register at
its offset, and the byte lanes of the register window (10_state section 1; 20_memory R201, R204, R206). -/

namespace Sys2Proof.Machine

/-- W(w): VW when w = 0, DW when w = 1 (R15). -/
def Block.window (b : Block) : Win → Window
  | .vw => b.vw
  | .dw => b.dw

/-- W(w) <- x (R15). -/
def Block.setWindow (b : Block) : Win → Window → Block
  | .vw, x => { b with vw := x }
  | .dw, x => { b with dw := x }

/-- The constant ID (R101). -/
def idWord : Word := 0x53570007#32

/-- CTRL: TICK_EN at bit 0, the other bits read 0 (R102). -/
def Block.ctrlWord (b : Block) : Word := 0#31 ++ BitVec.ofBool b.tickEn

/-- ERR_CAUSE: CAUSE at bits [3:0], the other bits read 0 (R104). -/
def Block.errCauseWord (b : Block) : Word := 0#28 ++ b.errCause.code

/-- CFG: {PWM_MAX[15:0], 7'b0, DUTY_SRC, PWM_CH[7:0]} (R713). -/
def Cfg.toWord (c : Cfg) : Word := c.pwmMax ++ 0#7 ++ BitVec.ofBool c.dutySrc ++ c.pwmCh

/-- The fields of a word written to CFG; bits [15:9] are ignored (R714). -/
def Cfg.ofWord (w : Word) : Cfg :=
  { pwmCh := w.extractLsb' 0 8, dutySrc := w.getLsbD 8, pwmMax := w.extractLsb' 16 16 }

/-- The 32-bit register at an offset, reserved bits 0; none where the offset belongs to no register (R204; 10_state section
1). CMD reads 0 (R114). TIMER is the count the block holds; what a read of it returns while the timer runs in a model without
time is `execRdTimer`'s business (R717). -/
def Block.regAt (b : Block) (off : Offset) : Option Word :=
  match off with
  | 0x000#12 => some idWord
  | 0x004#12 => some b.ctrlWord
  | 0x008#12 => some b.statusWord
  | 0x00C#12 => some b.errCauseWord
  | 0x010#12 => some b.errInfo
  | 0x014#12 => some b.irqEn.toWord
  | 0x018#12 => some b.cfg.toWord
  | 0x01C#12 => some b.period
  | 0x020#12 => some b.timer
  | 0x024#12 => some b.tickCount
  | 0x028#12 => some b.missed
  | 0x02C#12 => some b.setpoint
  | 0x030#12 => some b.data
  | 0x034#12 => some 0#32
  | 0x038#12 => some b.result
  | 0x03C#12 => some b.lastOut
  | 0x040#12 => some b.lastPwm
  | 0x044#12 => some b.snapVmean
  | 0x048#12 => some b.snapVsd
  | 0x04C#12 => some b.snapDmean
  | 0x050#12 => some b.snapDsd
  | 0x054#12 => some b.snapTick
  | 0x060#12 => some b.vw.s0
  | 0x064#12 => some b.vw.s1
  | 0x068#12 => some b.vw.s2
  | 0x06C#12 => some b.vw.s3
  | 0x070#12 => some b.vw.s4
  | 0x080#12 => some b.dw.s0
  | 0x084#12 => some b.dw.s1
  | 0x088#12 => some b.dw.s2
  | 0x08C#12 => some b.dw.s3
  | 0x090#12 => some b.dw.s4
  | _ => none

/-- The offset the block decodes from a host byte address: bits [11:0] (R201). -/
def hostOffset (addr : Nat) : Offset := BitVec.ofNat 12 addr

/-- The host byte address of byte lane `lane` of the register at `off` (R206). -/
def laneAddr (off : Offset) (lane : Fin 4) : Nat := Config.pBase + off.toNat + lane.val

/-- The byte a host that sees register words as bytes finds at a byte address: lane k of a word holds bits [8k+7:8k],
little-endian (R206). None outside the register window and at the offsets of no register. -/
def Block.hostByte (b : Block) (addr : Nat) : Option Byte :=
  if addr < Config.pBase ∨ Config.pBase + 4096 ≤ addr then none
  else
    let off := hostOffset addr
    match b.regAt (off &&& 0xFFC#12) with
    | none => none
    | some w => some (w.extractLsb' (8 * (off.toNat % 4)) 8)

end Sys2Proof.Machine
end

