-- ==== Sys2Proof/Machine/F32.lean ====
section
/-! DEFINITION. IEEE 754 binary32 with round to nearest, ties to even, subnormals, one NaN and no flags (00_scope R8, R18;
20_memory R207; 40_window R424). Every finite binary32 value is a whole multiple of 2^-149, the ulp of the subnormals: an
operation computes its exact result as a rational number of such units and rounds once, in `F32.round`. -/

namespace Sys2Proof.Machine

/-- F32_ZERO, +0.0 (R18). -/
def F32.zero : Word := 0x00000000#32

/-- F32_FIVE, 5.0 (R18). -/
def F32.five : Word := 0x40A00000#32

/-- The canonical quiet NaN, the only NaN an operation returns (R18, R424). -/
def F32.nan : Word := 0x7FC00000#32

/-- The sign bit, bit 31 (R207). -/
def F32.signBit (a : Word) : Bool := a.getLsbD 31

/-- The biased exponent, bits [30:23] (R207). -/
def F32.expField (a : Word) : Nat := (a.extractLsb' 23 8).toNat

/-- The fraction, bits [22:0] (R207). -/
def F32.fracField (a : Word) : Nat := (a.extractLsb' 0 23).toNat

/-- A NaN pattern: exponent all ones, fraction not zero. -/
def F32.isNaN (a : Word) : Bool := F32.expField a == 255 && F32.fracField a != 0

/-- An infinity: exponent all ones, fraction zero. -/
def F32.isInf (a : Word) : Bool := F32.expField a == 255 && F32.fracField a == 0

/-- A finite pattern: zero, subnormal or normal. -/
def F32.isFinite (a : Word) : Bool := F32.expField a != 255

/-- The magnitude of a finite pattern in units of 2^-149: a subnormal (exponent field 0) is its fraction; a normal has the
hidden bit and is shifted by its exponent field less 1. -/
def F32.units (a : Word) : Nat :=
  if F32.expField a = 0 then F32.fracField a
  else (2 ^ 23 + F32.fracField a) * 2 ^ (F32.expField a - 1)

/-- `m` with a minus where `neg`. -/
def F32.signed (neg : Bool) (m : Nat) : Int := if neg then -(m : Int) else (m : Int)

/-- The value of a finite pattern in units of 2^-149, with its sign. -/
def F32.value (a : Word) : Int := F32.signed (F32.signBit a) (F32.units a)

/-- The pattern with sign `neg` and the 31-bit magnitude `mag`. -/
def F32.withSign (neg : Bool) (mag : Nat) : Word :=
  BitVec.ofNat 32 (if neg then 2 ^ 31 + mag else mag)

/-- The magnitude pattern of infinity. -/
def F32.infMag : Nat := 0x7F800000

/-- The infinity with sign `neg`. -/
def F32.inf (neg : Bool) : Word := F32.withSign neg F32.infMag

/-- How far the significand of `n / d` units lies above the subnormal ulp: `n / d` cut to 24 bits keeps units of 2^k. -/
def F32.scale (n d : Nat) : Nat := Nat.log2 (n / d) - 23

/-- `a / b` rounded to the nearest whole number, ties to even. -/
def F32.roundDiv (a b : Nat) : Nat :=
  let q := a / b
  let r := a % b
  if 2 * r > b ∨ (2 * r = b ∧ q % 2 = 1) then q + 1 else q

/-- The magnitude pattern nearest to `n / d` units of 2^-149 (d > 0), ties to even: a 24-bit significand in units of 2^k,
under the exponent field that k gives. The sum carries a significand rounded up to 2^24 into the exponent. Beyond the
largest finite value the result is infinity (IEEE 754, R18). -/
def F32.roundMag (n d : Nat) : Nat :=
  let k := F32.scale n d
  let mag := 2 ^ 23 * k + F32.roundDiv n (d * 2 ^ k)
  if mag ≥ F32.infMag then F32.infMag else mag

/-- The binary32 value nearest to ± n / d units of 2^-149, ties to even (R8). -/
def F32.round (neg : Bool) (n d : Nat) : Word := F32.withSign neg (F32.roundMag n d)

/-- The negation: the sign bit flipped. -/
def F32.neg (a : Word) : Word := a ^^^ 0x80000000#32

/-- f32_add (R18): ∞ − ∞ is invalid; an exact zero sum is +0 unless both operands are −0. -/
def F32.add (a b : Word) : Word :=
  if F32.isNaN a || F32.isNaN b then F32.nan
  else if F32.isInf a then
    if F32.isInf b && F32.signBit a != F32.signBit b then F32.nan else F32.inf (F32.signBit a)
  else if F32.isInf b then F32.inf (F32.signBit b)
  else
    let sum := F32.value a + F32.value b
    if sum = 0 then F32.withSign (F32.signBit a && F32.signBit b) 0
    else F32.round (sum < 0) sum.natAbs 1

/-- f32_sub (R18): a + (−b). -/
def F32.sub (a b : Word) : Word := F32.add a (F32.neg b)

/-- f32_mul (R18): 0 · ∞ is invalid. The product of two counts of 2^-149 is a count of 2^-298. -/
def F32.mul (a b : Word) : Word :=
  let neg := F32.signBit a ^^ F32.signBit b
  if F32.isNaN a || F32.isNaN b then F32.nan
  else if F32.isInf a then if F32.isFinite b && F32.units b == 0 then F32.nan else F32.inf neg
  else if F32.isInf b then if F32.units a == 0 then F32.nan else F32.inf neg
  else F32.round neg (F32.units a * F32.units b) (2 ^ 149)

/-- f32_div (R18): 0 / 0 and ∞ / ∞ are invalid; a finite number over 0 is infinite, over ∞ is zero. -/
def F32.div (a b : Word) : Word :=
  let neg := F32.signBit a ^^ F32.signBit b
  if F32.isNaN a || F32.isNaN b then F32.nan
  else if F32.isInf a then if F32.isInf b then F32.nan else F32.inf neg
  else if F32.isInf b then F32.withSign neg 0
  else if F32.units b = 0 then if F32.units a = 0 then F32.nan else F32.inf neg
  else F32.round neg (F32.units a * 2 ^ 149) (F32.units b)

/-- The integer square root of `n` found bit by bit: `r` holds the bits found so far, `k` more follow. -/
def F32.isqrtBits (n : Nat) : Nat → Nat → Nat
  | 0, r => r
  | k + 1, r => F32.isqrtBits n k (if (r + 2 ^ k) * (r + 2 ^ k) ≤ n then r + 2 ^ k else r)

/-- The integer square root: the largest r with r² ≤ n. -/
def F32.isqrt (n : Nat) : Nat := F32.isqrtBits n (Nat.log2 n / 2 + 1) 0

/-- f32_sqrt (R18): invalid below −0; √±0 is ±0. The root of m units is √(m · 2^149) units; its whole part has 75 bits or
more, and a half unit beside it stands for a root that is not whole, which keeps the rounding of 24 bits exact. -/
def F32.sqrt (a : Word) : Word :=
  if F32.isNaN a then F32.nan
  else if F32.isFinite a && F32.units a == 0 then a
  else if F32.signBit a then F32.nan
  else if F32.isInf a then F32.inf false
  else
    let n := F32.units a * 2 ^ 149
    let r := F32.isqrt n
    F32.round false (if r * r = n then 2 * r else 2 * r + 1) 2

/-- f32_lt (R18): the ordered less-than, false if either operand is NaN; −0 is not less than +0. -/
def F32.lt (a b : Word) : Bool :=
  if F32.isNaN a || F32.isNaN b then false
  else if F32.isInf a then F32.signBit a && !(F32.isInf b && F32.signBit b)
  else if F32.isInf b then !F32.signBit b
  else decide (F32.value a < F32.value b)

/-- i32_to_f32 (R18): a signed integer rounded to binary32. -/
def F32.ofInt (x : Word) : Word := F32.round (x.toInt < 0) (x.toInt.natAbs * 2 ^ 149) 1

end Sys2Proof.Machine
end

