-- ==== Sys2Proof/Machine/Window.lean ====
section
/-! DEFINITION. The window datapath (40_window): push, clear, mean and stddev as pure functions of five slots (R423). Every
arithmetic step is one rounded binary32 operation, in the order the spec fixes (R410, R420, D4). -/

namespace Sys2Proof.Machine

/-- push(S, v): every slot moves one place toward the oldest, `v` enters bit for bit at the newest (R401, R402). -/
def Window.push (s : Window) (v : Word) : Window :=
  { s0 := s.s1, s1 := s.s2, s2 := s.s3, s3 := s.s4, s4 := v }

/-- clear(S): five slots of +0.0 (R403). -/
def Window.clear (_ : Window) : Window := Window.zero

/-- The slots from the oldest to the newest, the order of every fold (R410). -/
def Window.slots (s : Window) : List Word := [s.s0, s.s1, s.s2, s.s3, s.s4]

/-- acc: the left fold of f32_add from +0.0 over slots 0 to 4 (R410). -/
def Window.sum (s : Window) : Word := s.slots.foldl F32.add F32.zero

/-- acc2: the left fold of the squares, each product rounded before it is added (R420). -/
def Window.sumSquares (s : Window) : Word := s.slots.foldl (fun acc x => F32.add acc (F32.mul x x)) F32.zero

/-- mean(S): the sum divided by 5.0 (R410). -/
def Window.mean (s : Window) : Word := F32.div s.sum F32.five

/-- var: the mean of squares minus the square of the mean, before the clamp (R420). -/
def Window.variance (s : Window) : Word :=
  F32.sub (F32.div s.sumSquares F32.five) (F32.mul s.mean s.mean)

/-- The clamp of a negative radicand to +0.0; a NaN is not less than +0.0 and passes (R421). -/
def clampRadicand (x : Word) : Word := if F32.lt x F32.zero then F32.zero else x

/-- stddev(S): the square root of the clamped variance (R420). -/
def Window.stddev (s : Window) : Word := F32.sqrt (clampRadicand s.variance)

end Sys2Proof.Machine
end

