-- ==== Sys2Proof/Machine/Ops.lean ====
section
/-! DEFINITION. The operations the meanings share: recording and clearing an error (60_exceptions R810, R813), completing a
host access (20_memory R205, R209), the configuration lock (R712), the setpoint (R729, R524), the checks of a command (R600), the start of a tick (R510)
and the timer event (R502, R503). -/

namespace Sys2Proof.Machine

/-! ## Errors: what the block does for an exception, and its undoing -/

/-- `raise E(info)` (R810): the STATUS bit of E is set; the first error since ERR_CAUSE was last 0 is captured with its
information word, a later one is not. No mode, mask or control flow changes (R823). -/
def Block.raise (b : Block) (e : Cause) (info : Word) : Block :=
  if b.errCause = .noError then { b with sticky := b.sticky.mark e, errCause := e, errInfo := info }
  else { b with sticky := b.sticky.mark e }

/-- The clearing of ERR_CAUSE and ERR_INFO together, which re-arms the capture (R708, R813). There is no other return from
an error (R824). -/
def Block.clearError (b : Block) : Block := { b with errCause := .noError, errInfo := 0#32 }

/-- The information word of BUS_ERROR and CFG_LOCKED: {12'b0, STRB, 3'b0, WR, OFF}; STRB is 0 for a read (R801). -/
def accessInfo : Access → Word
  | .read off => 0#12 ++ 0#4 ++ 0#3 ++ bus13Read off
  | .write off strb _ => 0#12 ++ strb ++ 0#3 ++ bus13Write off

/-! ## Host accesses -/

/-- The block replaced, the host answered: an access or command that completes. -/
def complete (b : Block) (r : BusResp) (s : State) : Host.Outcome State Fault Refusal :=
  .next { blk := b, env := { s.env with resp := r } }

/-- A read that returns `v` and changes no state of the block (R209, R700). -/
def answerRead (v : Word) (s : State) : Host.Outcome State Fault Refusal :=
  complete s.blk (.done (some v)) s

/-- What a bus error returns: a read 0, a write nothing (R205). -/
def errorData : Access → Option Word
  | .read _ => some 0#32
  | .write _ _ _ => none

/-- The bus error (R205): the error response, no effect but `raise BUS_ERROR`. -/
def busError (a : Access) (s : State) : Host.Outcome State Fault Refusal :=
  complete (s.blk.raise .busError (accessInfo a)) (.error (errorData a)) s

/-- A write of a writable register: with full strobes `f` acts on the block, with any other mask the write is a bus error
(R202, R205 (3)). -/
def writeReg (off : Offset) (strb : Strobe) (wdata : Word) (f : Block → Block) (s : State) :
    Host.Outcome State Fault Refusal :=
  if strb = fullStrobe then complete (f s.blk) (.done none) s else busError (.write off strb wdata) s

/-- CFG and PERIOD are locked while the timer runs or a tick is in progress (R712). -/
def Block.locked (b : Block) : Bool := b.tickEn || b.busy

/-- A full-strobe write of a register the lock covers: ignored with cause 4 while locked, `f` otherwise (R712). -/
def Block.writeLocked (b : Block) (off : Offset) (f : Block → Block) : Block :=
  if b.locked then b.raise .cfgLocked (accessInfo (.write off fullStrobe 0#32)) else f b

/-! ## The setpoint -/

/-- The value phase SETTGT sends: SETPOINT, unless SETPOINT was written while the request waited; then the value the request
has carried from the start of its phase (R331, R511, R524; assumption 19). -/
def Block.target (b : Block) : Word := b.heldTarget.getD b.setpoint

/-- SETPOINT <- w, SP_PENDING <- 1 (R729). In phase SETTGT the request word on the engine port stands as it is (R331), so the
tick in progress does not forward `w` (R524; assumption 19). -/
def Block.setpointWritten (b : Block) (w : Word) : Block :=
  { b with
    setpoint := w
    spPending := true
    heldTarget := if b.phase = .settgt then some b.target else b.heldTarget }

/-! ## Commands -/

/-- A command that may run at any time: the CMD write that delivered it completes after its effect (R600). -/
def runCommand (f : Block → Block) (s : State) : Host.Outcome State Fault Refusal :=
  complete (f s.blk) (.done none) s

/-- PUSH, CLEAR and FORCE_TICK: rejected with cause 2 while TICK_EN = 1, then with cause 3 while BUSY = 1, and otherwise
`f`. A rejected command does nothing else (R600). -/
def Block.ifStopped (b : Block) (c : Word) (f : Block → Block) : Block :=
  if b.tickEn then b.raise .cmdOwnership c
  else if b.busy then b.raise .cmdBusy c
  else f b

/-! ## The tick's triggers -/

/-- The start of a tick (R510): SETTGT if a setpoint is pending, else REFRESH; nothing else is written. -/
def Block.startTick (b : Block) : Block :=
  { b with phase := if b.spPending then .settgt else .refresh }

/-- MISSED plus one, saturating at 0xFFFFFFFF (R503). -/
def saturatingIncr (x : Word) : Word := if x = 0xFFFFFFFF#32 then x else x + 1#32

/-- timer_event() (R502, R503): with BUSY = 0 it starts a tick; with BUSY = 1 it is dropped: counted in MISSED, recorded as
OVERRUN with TICK_COUNT as the information word. -/
def Block.timerEvent (b : Block) : Block :=
  if b.busy then { b with missed := saturatingIncr b.missed }.raise .tickOverrun b.tickCount
  else b.startTick

end Sys2Proof.Machine
end

