-- ==== Sys2Proof/Machine/Ports.lean ====
section
/-! DEFINITION. The sequencer's ports (41_tick R507 to R517; 30_encoding R330, R331, R340): the request each port asserts, the
PWM saturation, and one meaning per ENG35 and PWM24 row. A request is issued only by SEQ, in the phase that issues it, with
the data the phase gives it; where the block does not assert the request, it is not issued and nothing happens. -/

namespace Sys2Proof.Machine

/-! ## The request lines -/

/-- The engine request the block asserts in a phase, with EWDATA = the target for SET_TARGET and 0 otherwise (R330, R507,
R511). IDLE, PWMWR and COMMIT assert none. -/
def Block.engineRequest (b : Block) : Option (BitVec 35) :=
  match b.phase with
  | .settgt => some (engWord 2#3 b.target)
  | .refresh => some (engWord 0#3 0#32)
  | .compute => some (engWord 1#3 0#32)
  | .getout => some (engWord 4#3 0#32)
  | .getvel => some (engWord 3#3 0#32)
  | .getraw => some (engWord 5#3 0#32)
  | .idle | .pwmwr | .commit => none

/-- The engine's integer output clamped to [0, PWM_MAX] (R515). -/
def saturate (x : Word) (max : BitVec 16) : BitVec 16 :=
  if x.toInt < 0 then 0#16
  else if x.toInt > (max.toNat : Int) then max
  else x.extractLsb' 0 16

/-- The engine's output lies outside [0, PWM_MAX], so it is clamped (R515). -/
def saturates (x : Word) (max : BitVec 16) : Bool := decide (x.toInt < 0 ∨ x.toInt > (max.toNat : Int))

/-- The PWM request the block asserts: in phase PWMWR, {PWM_CH, the clamped output} (R508, R515, R340). -/
def Block.pwmRequest (b : Block) : Option (BitVec 24) :=
  match b.phase with
  | .pwmwr => some (pwmWord b.cfg.pwmCh (saturate b.lOut b.cfg.pwmMax))
  | .idle | .settgt | .refresh | .compute | .getout | .getvel | .getraw | .commit => none

/-! ## What each acknowledged request does to the block -/

/-- SETTGT: SP_PENDING <- 0, then REFRESH (R511). A SETPOINT written while the request waited has not been forwarded: it
stays pending, for the next tick (R132, R524; assumption 19). -/
def Block.targetSet (b : Block) : Block :=
  { b with spPending := b.heldTarget.isSome, heldTarget := none, phase := .refresh }

/-- REFRESH writes nothing in the block; COMPUTE follows (R512). -/
def Block.refreshed (b : Block) : Block := { b with phase := .compute }

/-- COMPUTE writes nothing in the block; GETOUT follows (R513). -/
def Block.computed (b : Block) : Block := { b with phase := .getout }

/-- GETOUT: L_OUT takes the reply, then PWMWR (R514). -/
def Block.gotOut (b : Block) (reply : Word) : Block := { b with lOut := reply, phase := .pwmwr }

/-- PWMWR: L_PWM takes the clamped value; a clamp is recorded as PWM_SATURATED with the raw output; then GETVEL (R515). -/
def Block.pwmSent (b : Block) : Block :=
  let sent := { b with lPwm := saturate b.lOut b.cfg.pwmMax, phase := .getvel }
  if saturates b.lOut b.cfg.pwmMax then sent.raise .pwmSaturated b.lOut else sent

/-- GETVEL: L_VEL takes the reply bit for bit. With DUTY_SRC = 1, L_DUTY takes the value sent, as binary32, and COMMIT
follows; with DUTY_SRC = 0, GETRAW follows (R516). -/
def Block.gotVel (b : Block) (reply : Word) : Block :=
  if b.cfg.dutySrc then { b with lVel := reply, lDuty := F32.ofInt (b.lPwm.zeroExtend 32), phase := .commit }
  else { b with lVel := reply, phase := .getraw }

/-- GETRAW: L_DUTY takes the reply bit for bit, then COMMIT (R517). -/
def Block.gotRaw (b : Block) (reply : Word) : Block := { b with lDuty := reply, phase := .commit }

/-! ## The transactions -/

/-- An engine transaction: issued and acknowledged in one SEQ step (R17, R331), the reply standing on ERDATA. Where the
block does not assert the request `w`, none takes place. -/
def engineCall (w : BitVec 35) (f : Block → Word → Block) (s : State) : Host.Outcome State Fault Refusal :=
  if s.blk.engineRequest = some w then
    .next { blk := f s.blk s.env.erdata, env := { s.env with engLog := w :: s.env.engLog } }
  else .next s

/-- A PWM transaction: it carries no reply (R340). Where the block does not assert the request `w`, none takes place. -/
def pwmCall (w : BitVec 24) (f : Block → Block) (s : State) : Host.Outcome State Fault Refusal :=
  if s.blk.pwmRequest = some w then
    .next { blk := f s.blk, env := { s.env with pwmLog := w :: s.env.pwmLog } }
  else .next s

/-! ## The meanings -/

/-- E_REFRESH: the transaction of phase REFRESH, its reply ignored (R512). -/
def execERefresh (ewdata : Word) (s : State) : Host.Outcome State Fault Refusal :=
  engineCall (engWord 0#3 ewdata) (fun b _ => b.refreshed) s

/-- E_COMPUTE: the transaction of phase COMPUTE, its reply ignored (R513). -/
def execECompute (ewdata : Word) (s : State) : Host.Outcome State Fault Refusal :=
  engineCall (engWord 1#3 ewdata) (fun b _ => b.computed) s

/-- E_SET_TARGET: the transaction of phase SETTGT, which forwards the target; its reply ignored (R511). -/
def execESetTarget (ewdata : Word) (s : State) : Host.Outcome State Fault Refusal :=
  engineCall (engWord 2#3 ewdata) (fun b _ => b.targetSet) s

/-- E_GET_VEL: the transaction of phase GETVEL (R516). -/
def execEGetVel (ewdata : Word) (s : State) : Host.Outcome State Fault Refusal :=
  engineCall (engWord 3#3 ewdata) Block.gotVel s

/-- E_GET_OUT: the transaction of phase GETOUT (R514). -/
def execEGetOut (ewdata : Word) (s : State) : Host.Outcome State Fault Refusal :=
  engineCall (engWord 4#3 ewdata) Block.gotOut s

/-- E_GET_RAW: the transaction of phase GETRAW (R517). -/
def execEGetRaw (ewdata : Word) (s : State) : Host.Outcome State Fault Refusal :=
  engineCall (engWord 5#3 ewdata) Block.gotRaw s

/-- PWM_WRITE: the transaction of phase PWMWR (R515). -/
def execPwmWrite (pch : BitVec 8) (pval : BitVec 16) (s : State) : Host.Outcome State Fault Refusal :=
  pwmCall (pwmWord pch pval) Block.pwmSent s

end Sys2Proof.Machine
end

