-- ==== Sys2Proof/Machine/Agents.lean ====
section
/-! DEFINITION. The agents' steps (00_scope R13): what HOST, TIMER, SEQ and reset do next, and how an instruction is laid where
the next step fetches it. The step itself (Machine/Step.lean) runs what is fetched here. -/

namespace Sys2Proof.Machine

/-- What an agent's step comes to: an instruction to run, or an outcome that is no instruction's. -/
inductive Action where
  /-- Run `i` in `s`. -/
  | run (i : Instr) (s : State)
  /-- The step's outcome. -/
  | done (o : Host.Outcome State Fault Refusal)

/-! ## TIMER -/

/-- One rising edge of the block clock (R501): TIMER is held at 0 while stopped; it wraps at PERIOD − 1 with a timer event,
PERIOD = 0 comparing with 0xFFFFFFFF; else it counts. -/
def Block.clockEdge (b : Block) : Block :=
  if !b.tickEn then { b with timer := 0#32 }
  else if b.timer = b.period - 1#32 then { b with timer := 0#32 }.timerEvent
  else { b with timer := b.timer + 1#32 }

/-- TIMER's step. In a run that counts time it is a clock edge (R501); in a run without time it is a timer event, enabled
only while TICK_EN = 1 (R504, R13). -/
def State.timerStep (s : State) : State :=
  if s.env.timed then { s with blk := s.blk.clockEdge }
  else if s.blk.tickEn then { s with blk := s.blk.timerEvent }
  else s

/-! ## SEQ -/

/-- Phase COMMIT (R518), one atomic step: both windows take their samples, LAST_OUT, LAST_PWM and TICK_COUNT are updated,
TICK_DONE is set and the tick is over. -/
def Block.commit (b : Block) : Block :=
  { b with
    vw := b.vw.push b.lVel
    dw := b.dw.push b.lDuty
    lastOut := b.lOut
    lastPwm := b.lPwm.zeroExtend 32
    tickCount := b.tickCount + 1#32
    sticky := { b.sticky with tickDone := true }
    phase := .idle }

/-- The port word SEQ issues in its phase, if the phase issues one (R507, R508). -/
def Block.portRequest (b : Block) : Option PortWord :=
  match b.engineRequest with
  | some w => some (.eng w)
  | none =>
    match b.pwmRequest with
    | some w => some (.pwm w)
    | none => none

/-- SEQ's step: the port request of its phase, acknowledged with `reply` on the engine's reply lines; or COMMIT. In IDLE, SEQ
has no step, and nothing happens. -/
def seqAction (reply : Word) (s : State) : Action :=
  match s.blk.portRequest with
  | some w =>
    match decode w with
    | .ok i => .run i { s with env := { s.env with erdata := reply } }
    | .error _ => .done (.next s)
  | none =>
    match s.blk.phase with
    | .commit => .done (.next { s with blk := s.blk.commit })
    | .idle | .settgt | .refresh | .compute | .getout | .pwmwr | .getvel | .getraw => .done (.next s)

/-! ## HOST and reset -/

/-- HOST's step: the access is the instruction it decodes to, or the bus error of a misaligned or unmapped access (R205). -/
def hostAction (a : Access) (s : State) : Action :=
  match decodeHost a with
  | .ok i => .run i s
  | .error _ => .done (busError a s)

/-- Reset (R900): one step that gives every state of the block its R140 value, whatever was in flight (R902). A pulse shorter
than P_RST_CYCLES leaves a state the spec does not give (I14). -/
def resetStep (cycles : Nat) (s : State) : Host.Outcome State Fault Refusal :=
  if cycles < Config.pRstCycles then .refused .resetPulseTooShort
  else .next { s with blk := Block.reset }

/-! ## The next step -/

/-- The step of the agent whose turn it is. With nothing presented, nothing happens: after reset the block is quiescent, and
the sequencer moves only with an acknowledge (R509, R903). -/
def nextAction (s : State) : Action :=
  match s.env.agenda with
  | [] => .done (.next s)
  | ev :: rest =>
    let s' := { s with env := { s.env with agenda := rest } }
    match ev with
    | .host a => hostAction a s'
    | .timer => .done (.next s'.timerStep)
    | .seq reply => seqAction reply s'
    | .reset cycles => .done (resetStep cycles s')

/-! ## Laying an instruction where the next step fetches it -/

/-- The event put first on the agenda. -/
def State.present (ev : Event) (s : State) : State :=
  { s with env := { s.env with agenda := ev :: s.env.agenda } }

/-- The block in the phase that issues an engine request: SETTGT with the setpoint the request carries, or the phase of its
EOP. A request that is never issued changes nothing. -/
def Block.issuing (b : Block) : Except DecodeError Instr → Block
  | .ok (.eSetTarget v) => { b with phase := .settgt, setpoint := v, heldTarget := none }
  | .ok (.eRefresh _) => { b with phase := .refresh }
  | .ok (.eCompute _) => { b with phase := .compute }
  | .ok (.eGetOut _) => { b with phase := .getout }
  | .ok (.eGetVel _) => { b with phase := .getvel }
  | .ok (.eGetRaw _) => { b with phase := .getraw }
  | _ => b

/-- The block about to send `pval` on channel `pch`: phase PWMWR, PWM_CH = pch, L_OUT = pval, and PWM_MAX raised to pval
where it is less, so that the value is not clamped. -/
def Block.sending (b : Block) (pch : BitVec 8) (pval : BitVec 16) : Block :=
  { b with
    phase := .pwmwr
    lOut := pval.zeroExtend 32
    cfg := { b.cfg with pwmCh := pch, pwmMax := if b.cfg.pwmMax < pval then pval else b.cfg.pwmMax } }

/-- The state in which the very next step fetches the port word `p`: a host access or the CMD write of a command word is
presented by HOST; a port request is presented by SEQ, in the phase that issues it, acknowledged with the reply that stands
on ERDATA. -/
def State.withPortWord (s : State) : PortWord → State
  | .host a => s.present (.host a)
  | .cmd c => s.present (.host (.write 0x034#12 fullStrobe c))
  | .eng w => ({ s with blk := s.blk.issuing (decodeEng w) } : State).present (.seq s.env.erdata)
  | .pwm w =>
    ({ s with blk := s.blk.sending (w.extractLsb' 16 8) (w.extractLsb' 0 16) } : State).present (.seq s.env.erdata)

/-- The state in which the very next step fetches the opcode table's word `w` of `nbits` bits; unchanged where that is no
word of a port. -/
def State.withTableWord (s : State) (nbits w : Nat) : State :=
  match tableWord nbits w with
  | some p => s.withPortWord p
  | none => s

end Sys2Proof.Machine
end

