-- ==== Sys2Proof/Machine/Commands.lean ====
section
/-! DEFINITION. The commands (42_commands): one meaning per CMD32 row, and `execCmd`, the dispatch of a command word that a
write of CMD delivers (R600). -/

namespace Sys2Proof.Machine

/-- NOP: no effect, legal at every TICK_EN and BUSY value (R604). -/
def execNop (s : State) : Host.Outcome State Fault Refusal := runCommand (fun b => b) s

/-- PUSH: W(w) <- push(W(w), DATA), while the block is stopped (R601). -/
def execPush (w : Win) (s : State) : Host.Outcome State Fault Refusal :=
  runCommand (fun b => b.ifStopped (cmdWord w.bit 0x1#4)
    (fun b => b.setWindow w ((b.window w).push b.data))) s

/-- MEAN: RESULT <- mean(W(w)), at any time (R602). -/
def execMean (w : Win) (s : State) : Host.Outcome State Fault Refusal :=
  runCommand (fun b => { b with result := (b.window w).mean }) s

/-- STDDEV: RESULT <- stddev(W(w)), at any time (R603). -/
def execStddev (w : Win) (s : State) : Host.Outcome State Fault Refusal :=
  runCommand (fun b => { b with result := (b.window w).stddev }) s

/-- SNAP: the four statistics and TICK_COUNT of this step's state, in one step (R605). -/
def execSnap (s : State) : Host.Outcome State Fault Refusal :=
  runCommand (fun b =>
    { b with
      snapVmean := b.vw.mean, snapVsd := b.vw.stddev
      snapDmean := b.dw.mean, snapDsd := b.dw.stddev
      snapTick := b.tickCount }) s

/-- CLEAR: W(w) <- clear(W(w)), while the block is stopped (R606). -/
def execClear (w : Win) (s : State) : Host.Outcome State Fault Refusal :=
  runCommand (fun b => b.ifStopped (cmdWord w.bit 0x5#4) (fun b => b.setWindow w (b.window w).clear)) s

/-- FORCE_TICK: one tick starts, as at a timer event with BUSY = 0, while the block is stopped (R607). -/
def execForceTick (s : State) : Host.Outcome State Fault Refusal :=
  runCommand (fun b => b.ifStopped (cmdWord 0#1 0x6#4) Block.startTick) s

/-- A command word that matches no row: `raise CMD_ILLEGAL(c)`, no other effect (R608). -/
def illegalCommand (c : Word) (s : State) : Host.Outcome State Fault Refusal :=
  runCommand (fun b => b.raise .cmdIllegal c) s

/-- exec_cmd(c) (R600): illegality is checked first, then the operation's own checks run. -/
def execCmd (c : Word) (s : State) : Host.Outcome State Fault Refusal :=
  let op : BitVec 4 := c.extractLsb' 0 4
  let w : BitVec 1 := c.extractLsb' 4 1
  if c.extractLsb' 5 27 ≠ 0#27 ∨ 7 ≤ op.toNat ∨ ((op = 0x0#4 ∨ op = 0x4#4 ∨ op = 0x6#4) ∧ w = 1#1) then
    illegalCommand c s
  else
    match op with
    | 0x0#4 => execNop s
    | 0x1#4 => execPush (Win.ofBit w) s
    | 0x2#4 => execMean (Win.ofBit w) s
    | 0x3#4 => execStddev (Win.ofBit w) s
    | 0x4#4 => execSnap s
    | 0x5#4 => execClear (Win.ofBit w) s
    | 0x6#4 => execForceTick s
    | _ => illegalCommand c s

end Sys2Proof.Machine
end

