-- ==== Sys2Proof/Machine/Reads.lean ====
section
/-! DEFINITION. Host reads (43_register_access): one meaning per RD row. Every read returns the register's whole value and
changes no state of the block (R209, R700). -/

namespace Sys2Proof.Machine

/-- A draw brought into the range R504 gives TIMER while it runs: [0, PERIOD − 1], or every 32-bit value when PERIOD = 0. -/
def timerDrawIn (period draw : Word) : Word := if period = 0#32 then draw else draw % period

/-- RD_ID: the constant 0x53570007 (R701). -/
def execRdId (s : State) : Host.Outcome State Fault Refusal := answerRead idWord s

/-- RD_CTRL: TICK_EN zero-extended (R703). -/
def execRdCtrl (s : State) : Host.Outcome State Fault Refusal := answerRead s.blk.ctrlWord s

/-- RD_STATUS: the fields of R103 (R705). -/
def execRdStatus (s : State) : Host.Outcome State Fault Refusal := answerRead s.blk.statusWord s

/-- RD_ERR_CAUSE: CAUSE zero-extended (R707). -/
def execRdErrCause (s : State) : Host.Outcome State Fault Refusal := answerRead s.blk.errCauseWord s

/-- RD_ERR_INFO: ERR_INFO (R709). -/
def execRdErrInfo (s : State) : Host.Outcome State Fault Refusal := answerRead s.blk.errInfo s

/-- RD_IRQ_EN: the six enables at bits 2 to 7 (R710). -/
def execRdIrqEn (s : State) : Host.Outcome State Fault Refusal := answerRead s.blk.irqEn.toWord s

/-- RD_CFG: PWM_MAX, DUTY_SRC and PWM_CH, reserved bits 0 (R713). -/
def execRdCfg (s : State) : Host.Outcome State Fault Refusal := answerRead s.blk.cfg.toWord s

/-- RD_PERIOD: PERIOD (R715). -/
def execRdPeriod (s : State) : Host.Outcome State Fault Refusal := answerRead s.blk.period s

/-- RD_TIMER: TIMER (R717). In a run without time, a read while the timer runs is a draw in range, fresh at each read
(R504, I4); in a run that counts clock edges it is exact. -/
def execRdTimer (s : State) : Host.Outcome State Fault Refusal :=
  if s.blk.tickEn && !s.env.timed then
    .next { s with
      env := { s.env with
        draws := s.env.draws + 1
        resp := .done (some (timerDrawIn s.blk.period (Config.timerDraw s.env.draws))) } }
  else answerRead s.blk.timer s

/-- RD_TICK_COUNT: TICK_COUNT (R718). -/
def execRdTickCount (s : State) : Host.Outcome State Fault Refusal := answerRead s.blk.tickCount s

/-- RD_MISSED: MISSED (R719). -/
def execRdMissed (s : State) : Host.Outcome State Fault Refusal := answerRead s.blk.missed s

/-- RD_SETPOINT: SETPOINT (R728). -/
def execRdSetpoint (s : State) : Host.Outcome State Fault Refusal := answerRead s.blk.setpoint s

/-- RD_DATA: DATA (R730). -/
def execRdData (s : State) : Host.Outcome State Fault Refusal := answerRead s.blk.data s

/-- RD_CMD: 0, and no bus error (R732). -/
def execRdCmd (s : State) : Host.Outcome State Fault Refusal := answerRead 0#32 s

/-- RD_RESULT: RESULT (R721). -/
def execRdResult (s : State) : Host.Outcome State Fault Refusal := answerRead s.blk.result s

/-- RD_LAST_OUT: LAST_OUT (R722). -/
def execRdLastOut (s : State) : Host.Outcome State Fault Refusal := answerRead s.blk.lastOut s

/-- RD_LAST_PWM: LAST_PWM (R723). -/
def execRdLastPwm (s : State) : Host.Outcome State Fault Refusal := answerRead s.blk.lastPwm s

/-- RD_SNAP_VMEAN: SNAP_VMEAN (R724). -/
def execRdSnapVmean (s : State) : Host.Outcome State Fault Refusal := answerRead s.blk.snapVmean s

/-- RD_SNAP_VSD: SNAP_VSD (R725). -/
def execRdSnapVsd (s : State) : Host.Outcome State Fault Refusal := answerRead s.blk.snapVsd s

/-- RD_SNAP_DMEAN: SNAP_DMEAN (R726). -/
def execRdSnapDmean (s : State) : Host.Outcome State Fault Refusal := answerRead s.blk.snapDmean s

/-- RD_SNAP_DSD: SNAP_DSD (R727). -/
def execRdSnapDsd (s : State) : Host.Outcome State Fault Refusal := answerRead s.blk.snapDsd s

/-- RD_SNAP_TICK: SNAP_TICK (R734). -/
def execRdSnapTick (s : State) : Host.Outcome State Fault Refusal := answerRead s.blk.snapTick s

/-- RD_VW0: slot 0, the oldest (R735). -/
def execRdVw0 (s : State) : Host.Outcome State Fault Refusal := answerRead s.blk.vw.s0 s

/-- RD_VW1: slot 1 (R736). -/
def execRdVw1 (s : State) : Host.Outcome State Fault Refusal := answerRead s.blk.vw.s1 s

/-- RD_VW2: slot 2 (R737). -/
def execRdVw2 (s : State) : Host.Outcome State Fault Refusal := answerRead s.blk.vw.s2 s

/-- RD_VW3: slot 3 (R738). -/
def execRdVw3 (s : State) : Host.Outcome State Fault Refusal := answerRead s.blk.vw.s3 s

/-- RD_VW4: slot 4, the newest (R739). -/
def execRdVw4 (s : State) : Host.Outcome State Fault Refusal := answerRead s.blk.vw.s4 s

/-- RD_DW0: slot 0, the oldest (R740). -/
def execRdDw0 (s : State) : Host.Outcome State Fault Refusal := answerRead s.blk.dw.s0 s

/-- RD_DW1: slot 1 (R741). -/
def execRdDw1 (s : State) : Host.Outcome State Fault Refusal := answerRead s.blk.dw.s1 s

/-- RD_DW2: slot 2 (R742). -/
def execRdDw2 (s : State) : Host.Outcome State Fault Refusal := answerRead s.blk.dw.s2 s

/-- RD_DW3: slot 3 (R743). -/
def execRdDw3 (s : State) : Host.Outcome State Fault Refusal := answerRead s.blk.dw.s3 s

/-- RD_DW4: slot 4, the newest (R744). -/
def execRdDw4 (s : State) : Host.Outcome State Fault Refusal := answerRead s.blk.dw.s4 s

end Sys2Proof.Machine
end

