-- ==== Sys2Proof/Machine/Writes.lean ====
section
/-! DEFINITION. Host writes (43_register_access): one meaning per WR row. A write without full strobes is a bus error (R205
(3)); a write of a read-only register always is (R205 (4), R702). -/

namespace Sys2Proof.Machine

/-- WR_ID_BUSERR: ID is read-only, a write of it is a bus error (R702). -/
def execWrIdBuserr (strb : Strobe) (wdata : Word) (s : State) : Host.Outcome State Fault Refusal :=
  busError (.write 0x000#12 strb wdata) s

/-- WR_CTRL: TICK_EN <- wdata[0]; a change of it stops the timer or starts it from 0, writing the value it holds changes nothing (R704). -/
def execWrCtrl (strb : Strobe) (wdata : Word) (s : State) : Host.Outcome State Fault Refusal :=
  writeReg 0x004#12 strb wdata (fun b =>
    { b with
      tickEn := wdata.getLsbD 0
      timer := if b.tickEn = wdata.getLsbD 0 then b.timer else 0#32 }) s

/-- WR_STATUS: each sticky bit whose wdata bit is 1 is cleared; the other bits of wdata are ignored (R706). -/
def execWrStatus (strb : Strobe) (wdata : Word) (s : State) : Host.Outcome State Fault Refusal :=
  writeReg 0x008#12 strb wdata (fun b => { b with sticky := b.sticky.clear (EventBits.ofWord wdata) }) s

/-- WR_ERR_CAUSE: ERR_CAUSE and ERR_INFO cleared, whatever the data (R708). -/
def execWrErrCause (strb : Strobe) (wdata : Word) (s : State) : Host.Outcome State Fault Refusal :=
  writeReg 0x00C#12 strb wdata (Block.clearError) s

/-- WR_ERR_INFO_BUSERR: ERR_INFO is read-only, a write of it is a bus error (R702). -/
def execWrErrInfoBuserr (strb : Strobe) (wdata : Word) (s : State) : Host.Outcome State Fault Refusal :=
  busError (.write 0x010#12 strb wdata) s

/-- WR_IRQ_EN: IRQ_EN <- wdata & 0xFC (R711). -/
def execWrIrqEn (strb : Strobe) (wdata : Word) (s : State) : Host.Outcome State Fault Refusal :=
  writeReg 0x014#12 strb wdata (fun b => { b with irqEn := EventBits.ofWord wdata }) s

/-- WR_CFG: the three fields, unless locked (R712, R714). -/
def execWrCfg (strb : Strobe) (wdata : Word) (s : State) : Host.Outcome State Fault Refusal :=
  writeReg 0x018#12 strb wdata (fun b =>
    b.writeLocked 0x018#12 (fun b => { b with cfg := Cfg.ofWord wdata })) s

/-- WR_PERIOD: PERIOD <- wdata, unless locked (R712, R716). -/
def execWrPeriod (strb : Strobe) (wdata : Word) (s : State) : Host.Outcome State Fault Refusal :=
  writeReg 0x01C#12 strb wdata (fun b =>
    b.writeLocked 0x01C#12 (fun b => { b with period := wdata })) s

/-- WR_TIMER_BUSERR: TIMER is read-only, a write of it is a bus error (R702). -/
def execWrTimerBuserr (strb : Strobe) (wdata : Word) (s : State) : Host.Outcome State Fault Refusal :=
  busError (.write 0x020#12 strb wdata) s

/-- WR_TICK_COUNT_BUSERR: TICK_COUNT is read-only, a write of it is a bus error (R702). -/
def execWrTickCountBuserr (strb : Strobe) (wdata : Word) (s : State) : Host.Outcome State Fault Refusal :=
  busError (.write 0x024#12 strb wdata) s

/-- WR_MISSED: MISSED cleared, whatever the data (R720). -/
def execWrMissed (strb : Strobe) (wdata : Word) (s : State) : Host.Outcome State Fault Refusal :=
  writeReg 0x028#12 strb wdata (fun b => { b with missed := 0#32 }) s

/-- WR_SETPOINT: SETPOINT <- wdata and SP_PENDING <- 1; a tick in progress does not forward it (R729, R524). -/
def execWrSetpoint (strb : Strobe) (wdata : Word) (s : State) : Host.Outcome State Fault Refusal :=
  writeReg 0x02C#12 strb wdata (fun b => b.setpointWritten wdata) s

/-- WR_DATA: DATA <- wdata, bit for bit (R731). -/
def execWrData (strb : Strobe) (wdata : Word) (s : State) : Host.Outcome State Fault Refusal :=
  writeReg 0x030#12 strb wdata (fun b => { b with data := wdata }) s

/-- WR_CMD: exec_cmd(wdata) with full strobes; with any other mask a bus error that executes nothing (R733, R600). -/
def execWrCmd (strb : Strobe) (wdata : Word) (s : State) : Host.Outcome State Fault Refusal :=
  if strb = fullStrobe then execCmd wdata s else busError (.write 0x034#12 strb wdata) s

/-- WR_RESULT_BUSERR: RESULT is read-only, a write of it is a bus error (R702). -/
def execWrResultBuserr (strb : Strobe) (wdata : Word) (s : State) : Host.Outcome State Fault Refusal :=
  busError (.write 0x038#12 strb wdata) s

/-- WR_LAST_OUT_BUSERR: LAST_OUT is read-only, a write of it is a bus error (R702). -/
def execWrLastOutBuserr (strb : Strobe) (wdata : Word) (s : State) : Host.Outcome State Fault Refusal :=
  busError (.write 0x03C#12 strb wdata) s

/-- WR_LAST_PWM_BUSERR: LAST_PWM is read-only, a write of it is a bus error (R702). -/
def execWrLastPwmBuserr (strb : Strobe) (wdata : Word) (s : State) : Host.Outcome State Fault Refusal :=
  busError (.write 0x040#12 strb wdata) s

/-- WR_SNAP_VMEAN_BUSERR: SNAP_VMEAN is read-only, a write of it is a bus error (R702). -/
def execWrSnapVmeanBuserr (strb : Strobe) (wdata : Word) (s : State) : Host.Outcome State Fault Refusal :=
  busError (.write 0x044#12 strb wdata) s

/-- WR_SNAP_VSD_BUSERR: SNAP_VSD is read-only, a write of it is a bus error (R702). -/
def execWrSnapVsdBuserr (strb : Strobe) (wdata : Word) (s : State) : Host.Outcome State Fault Refusal :=
  busError (.write 0x048#12 strb wdata) s

/-- WR_SNAP_DMEAN_BUSERR: SNAP_DMEAN is read-only, a write of it is a bus error (R702). -/
def execWrSnapDmeanBuserr (strb : Strobe) (wdata : Word) (s : State) : Host.Outcome State Fault Refusal :=
  busError (.write 0x04C#12 strb wdata) s

/-- WR_SNAP_DSD_BUSERR: SNAP_DSD is read-only, a write of it is a bus error (R702). -/
def execWrSnapDsdBuserr (strb : Strobe) (wdata : Word) (s : State) : Host.Outcome State Fault Refusal :=
  busError (.write 0x050#12 strb wdata) s

/-- WR_SNAP_TICK_BUSERR: SNAP_TICK is read-only, a write of it is a bus error (R702). -/
def execWrSnapTickBuserr (strb : Strobe) (wdata : Word) (s : State) : Host.Outcome State Fault Refusal :=
  busError (.write 0x054#12 strb wdata) s

/-- WR_VW0_BUSERR: VW0 is read-only, a write of it is a bus error (R702). -/
def execWrVw0Buserr (strb : Strobe) (wdata : Word) (s : State) : Host.Outcome State Fault Refusal :=
  busError (.write 0x060#12 strb wdata) s

/-- WR_VW1_BUSERR: VW1 is read-only, a write of it is a bus error (R702). -/
def execWrVw1Buserr (strb : Strobe) (wdata : Word) (s : State) : Host.Outcome State Fault Refusal :=
  busError (.write 0x064#12 strb wdata) s

/-- WR_VW2_BUSERR: VW2 is read-only, a write of it is a bus error (R702). -/
def execWrVw2Buserr (strb : Strobe) (wdata : Word) (s : State) : Host.Outcome State Fault Refusal :=
  busError (.write 0x068#12 strb wdata) s

/-- WR_VW3_BUSERR: VW3 is read-only, a write of it is a bus error (R702). -/
def execWrVw3Buserr (strb : Strobe) (wdata : Word) (s : State) : Host.Outcome State Fault Refusal :=
  busError (.write 0x06C#12 strb wdata) s

/-- WR_VW4_BUSERR: VW4 is read-only, a write of it is a bus error (R702). -/
def execWrVw4Buserr (strb : Strobe) (wdata : Word) (s : State) : Host.Outcome State Fault Refusal :=
  busError (.write 0x070#12 strb wdata) s

/-- WR_DW0_BUSERR: DW0 is read-only, a write of it is a bus error (R702). -/
def execWrDw0Buserr (strb : Strobe) (wdata : Word) (s : State) : Host.Outcome State Fault Refusal :=
  busError (.write 0x080#12 strb wdata) s

/-- WR_DW1_BUSERR: DW1 is read-only, a write of it is a bus error (R702). -/
def execWrDw1Buserr (strb : Strobe) (wdata : Word) (s : State) : Host.Outcome State Fault Refusal :=
  busError (.write 0x084#12 strb wdata) s

/-- WR_DW2_BUSERR: DW2 is read-only, a write of it is a bus error (R702). -/
def execWrDw2Buserr (strb : Strobe) (wdata : Word) (s : State) : Host.Outcome State Fault Refusal :=
  busError (.write 0x088#12 strb wdata) s

/-- WR_DW3_BUSERR: DW3 is read-only, a write of it is a bus error (R702). -/
def execWrDw3Buserr (strb : Strobe) (wdata : Word) (s : State) : Host.Outcome State Fault Refusal :=
  busError (.write 0x08C#12 strb wdata) s

/-- WR_DW4_BUSERR: DW4 is read-only, a write of it is a bus error (R702). -/
def execWrDw4Buserr (strb : Strobe) (wdata : Word) (s : State) : Host.Outcome State Fault Refusal :=
  busError (.write 0x090#12 strb wdata) s

end Sys2Proof.Machine
end

