-- ==== Sys2Proof/Machine/Dispatch.lean ====
section
/-! DEFINITION. The dispatch: one arm per constructor of Instr, each a direct call of its meaning. -/

namespace Sys2Proof.Machine

def exec (i : Instr) (s : State) : Host.Outcome State Fault Refusal :=
  match i with
  | .nop => Sys2Proof.Machine.execNop s
  | .push w => Sys2Proof.Machine.execPush w s
  | .mean w => Sys2Proof.Machine.execMean w s
  | .stddev w => Sys2Proof.Machine.execStddev w s
  | .snap => Sys2Proof.Machine.execSnap s
  | .clear w => Sys2Proof.Machine.execClear w s
  | .forceTick => Sys2Proof.Machine.execForceTick s
  | .rdId => Sys2Proof.Machine.execRdId s
  | .rdCtrl => Sys2Proof.Machine.execRdCtrl s
  | .rdStatus => Sys2Proof.Machine.execRdStatus s
  | .rdErrCause => Sys2Proof.Machine.execRdErrCause s
  | .rdErrInfo => Sys2Proof.Machine.execRdErrInfo s
  | .rdIrqEn => Sys2Proof.Machine.execRdIrqEn s
  | .rdCfg => Sys2Proof.Machine.execRdCfg s
  | .rdPeriod => Sys2Proof.Machine.execRdPeriod s
  | .rdTimer => Sys2Proof.Machine.execRdTimer s
  | .rdTickCount => Sys2Proof.Machine.execRdTickCount s
  | .rdMissed => Sys2Proof.Machine.execRdMissed s
  | .rdSetpoint => Sys2Proof.Machine.execRdSetpoint s
  | .rdData => Sys2Proof.Machine.execRdData s
  | .rdCmd => Sys2Proof.Machine.execRdCmd s
  | .rdResult => Sys2Proof.Machine.execRdResult s
  | .rdLastOut => Sys2Proof.Machine.execRdLastOut s
  | .rdLastPwm => Sys2Proof.Machine.execRdLastPwm s
  | .rdSnapVmean => Sys2Proof.Machine.execRdSnapVmean s
  | .rdSnapVsd => Sys2Proof.Machine.execRdSnapVsd s
  | .rdSnapDmean => Sys2Proof.Machine.execRdSnapDmean s
  | .rdSnapDsd => Sys2Proof.Machine.execRdSnapDsd s
  | .rdSnapTick => Sys2Proof.Machine.execRdSnapTick s
  | .rdVw0 => Sys2Proof.Machine.execRdVw0 s
  | .rdVw1 => Sys2Proof.Machine.execRdVw1 s
  | .rdVw2 => Sys2Proof.Machine.execRdVw2 s
  | .rdVw3 => Sys2Proof.Machine.execRdVw3 s
  | .rdVw4 => Sys2Proof.Machine.execRdVw4 s
  | .rdDw0 => Sys2Proof.Machine.execRdDw0 s
  | .rdDw1 => Sys2Proof.Machine.execRdDw1 s
  | .rdDw2 => Sys2Proof.Machine.execRdDw2 s
  | .rdDw3 => Sys2Proof.Machine.execRdDw3 s
  | .rdDw4 => Sys2Proof.Machine.execRdDw4 s
  | .wrIdBuserr strb wdata => Sys2Proof.Machine.execWrIdBuserr strb wdata s
  | .wrCtrl strb wdata => Sys2Proof.Machine.execWrCtrl strb wdata s
  | .wrStatus strb wdata => Sys2Proof.Machine.execWrStatus strb wdata s
  | .wrErrCause strb wdata => Sys2Proof.Machine.execWrErrCause strb wdata s
  | .wrErrInfoBuserr strb wdata => Sys2Proof.Machine.execWrErrInfoBuserr strb wdata s
  | .wrIrqEn strb wdata => Sys2Proof.Machine.execWrIrqEn strb wdata s
  | .wrCfg strb wdata => Sys2Proof.Machine.execWrCfg strb wdata s
  | .wrPeriod strb wdata => Sys2Proof.Machine.execWrPeriod strb wdata s
  | .wrTimerBuserr strb wdata => Sys2Proof.Machine.execWrTimerBuserr strb wdata s
  | .wrTickCountBuserr strb wdata => Sys2Proof.Machine.execWrTickCountBuserr strb wdata s
  | .wrMissed strb wdata => Sys2Proof.Machine.execWrMissed strb wdata s
  | .wrSetpoint strb wdata => Sys2Proof.Machine.execWrSetpoint strb wdata s
  | .wrData strb wdata => Sys2Proof.Machine.execWrData strb wdata s
  | .wrCmd strb wdata => Sys2Proof.Machine.execWrCmd strb wdata s
  | .wrResultBuserr strb wdata => Sys2Proof.Machine.execWrResultBuserr strb wdata s
  | .wrLastOutBuserr strb wdata => Sys2Proof.Machine.execWrLastOutBuserr strb wdata s
  | .wrLastPwmBuserr strb wdata => Sys2Proof.Machine.execWrLastPwmBuserr strb wdata s
  | .wrSnapVmeanBuserr strb wdata => Sys2Proof.Machine.execWrSnapVmeanBuserr strb wdata s
  | .wrSnapVsdBuserr strb wdata => Sys2Proof.Machine.execWrSnapVsdBuserr strb wdata s
  | .wrSnapDmeanBuserr strb wdata => Sys2Proof.Machine.execWrSnapDmeanBuserr strb wdata s
  | .wrSnapDsdBuserr strb wdata => Sys2Proof.Machine.execWrSnapDsdBuserr strb wdata s
  | .wrSnapTickBuserr strb wdata => Sys2Proof.Machine.execWrSnapTickBuserr strb wdata s
  | .wrVw0Buserr strb wdata => Sys2Proof.Machine.execWrVw0Buserr strb wdata s
  | .wrVw1Buserr strb wdata => Sys2Proof.Machine.execWrVw1Buserr strb wdata s
  | .wrVw2Buserr strb wdata => Sys2Proof.Machine.execWrVw2Buserr strb wdata s
  | .wrVw3Buserr strb wdata => Sys2Proof.Machine.execWrVw3Buserr strb wdata s
  | .wrVw4Buserr strb wdata => Sys2Proof.Machine.execWrVw4Buserr strb wdata s
  | .wrDw0Buserr strb wdata => Sys2Proof.Machine.execWrDw0Buserr strb wdata s
  | .wrDw1Buserr strb wdata => Sys2Proof.Machine.execWrDw1Buserr strb wdata s
  | .wrDw2Buserr strb wdata => Sys2Proof.Machine.execWrDw2Buserr strb wdata s
  | .wrDw3Buserr strb wdata => Sys2Proof.Machine.execWrDw3Buserr strb wdata s
  | .wrDw4Buserr strb wdata => Sys2Proof.Machine.execWrDw4Buserr strb wdata s
  | .eRefresh ewdata => Sys2Proof.Machine.execERefresh ewdata s
  | .eCompute ewdata => Sys2Proof.Machine.execECompute ewdata s
  | .eSetTarget ewdata => Sys2Proof.Machine.execESetTarget ewdata s
  | .eGetVel ewdata => Sys2Proof.Machine.execEGetVel ewdata s
  | .eGetOut ewdata => Sys2Proof.Machine.execEGetOut ewdata s
  | .eGetRaw ewdata => Sys2Proof.Machine.execEGetRaw ewdata s
  | .pwmWrite pch pval => Sys2Proof.Machine.execPwmWrite pch pval s

end Sys2Proof.Machine
end

