-- ==== Sys2Proof/Machine/Step.lean ====
section
/-! DEFINITION. The step: the agent whose turn it is takes one step (00_scope R13); and the laying of an instruction where the
next step fetches it. -/

namespace Sys2Proof.Machine

/-- One step of the machine. -/
def step (s : State) : Host.Outcome State Fault Refusal :=
  match nextAction s with
  | .run i s' => exec i s'
  | .done o => o

/-- `s` with the opcode table's word `w` of `nbits` bits where `step` fetches its next instruction: presented by the agent
that issues it, on the port that carries it (assumption 2). -/
def State.withFetchWord (s : State) (nbits w : Nat) : State := s.withTableWord nbits w

end Sys2Proof.Machine
end

