-- ==== Sys2Proof/Safety.lean ====
section
/-! DEFINITION. The terms statements about the machine use: the states instructions lead to, the spec's own lists of offsets
and illegal words, what an access leaves alone, and the invariant of every run. -/

namespace Sys2Proof.Machine

/-! ## States reached -/

/-- `s` after a host access that leaves the block `b` and answers `r`; nothing else of the state changes. -/
def State.answered (s : State) (b : Block) (r : BusResp) : State := { blk := b, env := { s.env with resp := r } }

/-- `s` after an engine transaction of request `w` that leaves the block `b`. -/
def State.engineAnswered (s : State) (b : Block) (w : BitVec 35) : State :=
  { blk := b, env := { s.env with engLog := w :: s.env.engLog } }

/-- `s` after a PWM transaction of request `w` that leaves the block `b`. -/
def State.pwmAnswered (s : State) (b : Block) (w : BitVec 24) : State :=
  { blk := b, env := { s.env with pwmLog := w :: s.env.pwmLog } }

/-- `s` with the first event of the agenda taken off. -/
def State.popped (s : State) (rest : List Event) : State := { s with env := { s.env with agenda := rest } }

/-! ## The spec's lists -/

/-- The mapped offsets, as R204 lists them. -/
def mappedOffset (off : Offset) : Prop :=
  off.toNat % 4 = 0 ∧
    (off.toNat ≤ 0x054 ∨ (0x060 ≤ off.toNat ∧ off.toNat ≤ 0x070) ∨ (0x080 ≤ off.toNat ∧ off.toNat ≤ 0x090))

/-- The offsets of the read-only registers, as R702 lists them with 10_state section 1's offsets. -/
def readOnlyOffset (off : Offset) : Prop :=
  off ∈ [0x000#12, 0x010#12, 0x020#12, 0x024#12, 0x038#12, 0x03C#12, 0x040#12, 0x044#12, 0x048#12, 0x04C#12, 0x050#12,
    0x054#12, 0x060#12, 0x064#12, 0x068#12, 0x06C#12, 0x070#12, 0x080#12, 0x084#12, 0x088#12, 0x08C#12, 0x090#12]

/-- A host access that is a bus error: R205's four conditions. -/
def isBusError : Access → Prop
  | .read off => off.toNat % 4 ≠ 0 ∨ ¬ mappedOffset off
  | .write off strb _ => off.toNat % 4 ≠ 0 ∨ ¬ mappedOffset off ∨ strb ≠ 0xF#4 ∨ readOnlyOffset off

/-- A command word that matches no row of R321: the three kinds R322 lists. -/
def illegalCommandWord (c : Word) : Prop :=
  c.extractLsb' 5 27 ≠ 0#27 ∨ 0x7 ≤ (c.extractLsb' 0 4).toNat ∨
    ((c.extractLsb' 0 4 = 0x0#4 ∨ c.extractLsb' 0 4 = 0x4#4 ∨ c.extractLsb' 0 4 = 0x6#4) ∧ c.getLsbD 4 = true)

/-- Every byte of the register window reads alike in the two blocks, but for the four lanes of the registers named. -/
def Block.sameBytesBut (b c : Block) (offs : List Offset) : Prop :=
  ∀ addr : Nat, (∀ off ∈ offs, addr < laneAddr off 0 ∨ laneAddr off 3 < addr) → c.hostByte addr = b.hostByte addr

/-- The state that no register shows: the latches of the tick in progress (R133). -/
def Block.sameLatches (b c : Block) : Prop :=
  c.lOut = b.lOut ∧ c.lPwm = b.lPwm ∧ c.lVel = b.lVel ∧ c.lDuty = b.lDuty

/-- All the state that the register window does not show: the latches, and the request word held for the engine (R331). -/
def Block.sameHidden (b c : Block) : Prop := b.sameLatches c ∧ c.heldTarget = b.heldTarget

/-! ## The invariant of every run -/

/-- What every state of a run from reset satisfies. -/
abbrev Block.Inv (b : Block) : Prop :=
  -- TIMER reads 0 whenever CTRL.TICK_EN = 0 (R109)
  (b.tickEn = false → b.timer = 0#32) ∧
  -- TIMER lies in 0 to PERIOD − 1, or anywhere when PERIOD = 0 (R109)
  (b.period ≠ 0#32 → b.timer < b.period) ∧
  -- ERR_INFO is written together with ERR_CAUSE and cleared together with it (R104, R105)
  (b.errCause = .noError → b.errInfo = 0#32) ∧
  -- SETTGT is reached only with a setpoint pending, which only SETTGT takes back (R510, R511)
  (b.phase = .settgt → b.spPending = true) ∧
  -- a request word is held apart from SETPOINT only while SETTGT waits (R331, R524)
  (b.phase ≠ .settgt → b.heldTarget = none) ∧
  -- after PWMWR, L_PWM is the engine's output clamped to the PWM_MAX in force, since CFG is locked (R515, R714)
  (b.phase = .getvel ∨ b.phase = .getraw ∨ b.phase = .commit → b.lPwm = saturate b.lOut b.cfg.pwmMax) ∧
  -- GETRAW is reached only with DUTY_SRC = 0 (R517)
  (b.phase = .getraw → b.cfg.dutySrc = false) ∧
  -- with DUTY_SRC = 1 the duty sample is the value sent, as binary32 (R516)
  (b.phase = .commit ∧ b.cfg.dutySrc = true → b.lDuty = F32.ofInt (b.lPwm.zeroExtend 32)) ∧
  -- LAST_PWM's bits [31:16] read 0 (R117)
  b.lastPwm.extractLsb' 16 16 = 0#16

/-- The invariant of the whole state is the block's. -/
abbrev State.Inv (s : State) : Prop := s.blk.Inv

/-- Phases left until IDLE when SEQ goes on alone, GETRAW counted whether it runs or not: the bound of R519. -/
def Phase.remaining : Phase → Nat
  | .idle => 0
  | .commit => 1
  | .getraw => 2
  | .getvel => 3
  | .pwmwr => 4
  | .getout => 5
  | .compute => 6
  | .refresh => 7
  | .settgt => 8

/-- The phase SEQ goes to from a phase, by R519's orders: GETRAW only when DUTY_SRC = 0. -/
def Phase.next (dutySrc : Bool) : Phase → Phase
  | .idle => .idle
  | .settgt => .refresh
  | .refresh => .compute
  | .compute => .getout
  | .getout => .pwmwr
  | .pwmwr => .getvel
  | .getvel => if dutySrc then .commit else .getraw
  | .getraw => .commit
  | .commit => .idle

/-- An event of SEQ. -/
def Event.isSeq : Event → Bool
  | .seq _ => true
  | .host _ | .timer | .reset _ => false

/-- A reset. -/
def Event.isReset : Event → Bool
  | .reset _ => true
  | .host _ | .timer | .seq _ => false

/-- A reset pulse long enough, or no reset (R900). -/
def Event.resetLongEnough : Event → Prop
  | .reset n => Config.pRstCycles ≤ n
  | .host _ | .timer | .seq _ => True

/-! ## Rounding -/

/-- The value of a finite magnitude pattern in units of 2^-149; a magnitude has 31 bits (R207). -/
def magUnits (m : Nat) : Nat := F32.units (BitVec.ofNat 32 m)

/-- The IEEE 754 overflow threshold of binary32, (2^25 − 1) · 2^103, in units of 2^-149: from it on the nearest result is
infinite (assumption 17). -/
def F32.overflowUnits : Nat := (2 ^ 25 - 1) * 2 ^ 252

/-- `r` is the exact result `num / den`, in units of 2^-149, rounded to nearest with ties to even (R8, R18). Below the overflow
threshold `r` is finite, no finite number lies nearer, and where another lies as near the significand of `r` is even; from
the threshold on `r` is the infinity of the sign. Distances are compared times `den`. -/
def F32.nearestEven (num : Int) (den : Nat) (r : Word) : Prop :=
  (|num| < F32.overflowUnits * den →
    F32.isFinite r = true ∧
    ∀ c : Word, F32.isFinite c = true →
      |num - F32.value r * den| ≤ |num - F32.value c * den| ∧
      (|num - F32.value r * den| = |num - F32.value c * den| → F32.value c ≠ F32.value r → r.getLsbD 0 = false)) ∧
  (F32.overflowUnits * den ≤ |num| → r = if num < 0 then 0xFF800000#32 else 0x7F800000#32)

/-- A slot that is finite with |S[i]| ≤ 2^62 (R422 (c)): 2^62 is 2^211 units of 2^-149. -/
def F32.atMost62 (a : Word) : Prop := F32.isFinite a = true ∧ F32.units a ≤ 2 ^ 211

end Sys2Proof.Machine
end

