-- ==== Sys2Proof/Certificates/Slice0/Obligations.lean ====
section
/-! DEFINITION. The statements for the provers. Each docstring says what is stated; OBLIGATIONS.json names its rules. -/

open Sys2Proof Sys2Proof.Machine

/-- For every well-formed instruction, whatever its operands, the decoder reads from the encoder's word exactly that
instruction: no bit of an encoding is dropped, on any of the four ports. (30_encoding.md sections 1 to 3, R301, R320,
R330, R340) -/
def Obligations.DecodeOfEncodeGivesInstruction : Prop :=
    ∀ i : Instr, i.wellFormed = true → decode (encode i) = .ok i

/-- Whatever word the decoder accepts, the instruction it answers is well formed and encodes to that very word: each
word has one meaning. (30_encoding.md sections 1 to 3) -/
def Obligations.EncodeOfDecodeGivesWord : Prop :=
    ∀ (p : PortWord) (i : Instr), decode p = .ok i → i.wellFormed = true ∧ encode i = p

/-- The word of every assembler spelling R321 lists (PUSH, MEAN, STDDEV and CLEAR, each .V and .D), those of NOP, SNAP
and FORCE_TICK, and words of each other format written out from its table, decode to the instruction they stand for.
That a write word of the table's numbering carries STRB = 0 and WDATA = 0 is the model's choice (assumption 2).
(30_encoding.md sections 1 to 3, R321, R330, R340, assumption 2 (DESIGN CHOICE)) -/
def Obligations.WordsWrittenOutDecode : Prop :=
    decodeTableWord 32 0x00000000 = some .nop ∧ decodeTableWord 32 0x00000001 = some (.push .vw) ∧
    decodeTableWord 32 0x00000011 = some (.push .dw) ∧ decodeTableWord 32 0x00000002 = some (.mean .vw) ∧
    decodeTableWord 32 0x00000012 = some (.mean .dw) ∧ decodeTableWord 32 0x00000003 = some (.stddev .vw) ∧
    decodeTableWord 32 0x00000013 = some (.stddev .dw) ∧ decodeTableWord 32 0x00000004 = some .snap ∧
    decodeTableWord 32 0x00000005 = some (.clear .vw) ∧ decodeTableWord 32 0x00000015 = some (.clear .dw) ∧
    decodeTableWord 32 0x00000006 = some .forceTick ∧
    decode (.host (.write 0x018#12 0xF#4 0x03E80103#32)) = .ok (.wrCfg 0xF#4 0x03E80103#32) ∧
    decodeTableWord 16 0x0008 = some .rdStatus ∧ decodeTableWord 16 0x1018 = some (.wrCfg 0#4 0#32) ∧
    decodeTableWord 16 0x1070 = some (.wrVw4Buserr 0#4 0#32) ∧
    decodeTableWord 40 0x241400000 = some (.eSetTarget 0x41400000#32) ∧
    decodeTableWord 40 0x400000000 = some (.eGetOut 0#32) ∧
    decodeTableWord 24 0x030258 = some (.pwmWrite 3#8 0x0258#16)

/-- A command word decodes to no instruction exactly when Z is not 0, OP is 7 or more, or OP is 0, 4 or 6 with W = 1.
A full-strobe write of such a word to CMD raises CMD_ILLEGAL with the word as information, at every TICK_EN and BUSY
value, and has no other effect. (R322, R608) -/
def Obligations.IllegalCommandWordsRaise : Prop :=
    (∀ c : Word, illegalCommandWord c ↔ ∀ i : Instr, decode (.cmd c) ≠ .ok i) ∧
    ∀ (c : Word) (s : State), illegalCommandWord c →
      exec (.wrCmd fullStrobe c) s = .next (s.answered (s.blk.raise .cmdIllegal c) (.done none))

/-- In HOST's step, an access of one of the four kinds answers the error response, a read returning 0, and changes
nothing but what raise BUS_ERROR records, with {12'b0, STRB or 0, 3'b0, WR, OFF} as information. Every other access
completes without the error response. (R205) -/
def Obligations.BusErrorsAreExactlyTheFourKinds : Prop :=
    ∀ (s : State) (rest : List Event),
    (∀ off : Offset, s.env.agenda = .host (.read off) :: rest →
      (isBusError (.read off) →
        step s = .next ((s.popped rest).answered (s.blk.raise .busError (0#20 ++ off)) (.error (some 0#32)))) ∧
      (¬ isBusError (.read off) → ∃ t v, step s = .next t ∧ t.env.resp = .done (some v))) ∧
    (∀ (off : Offset) (strb : Strobe) (wdata : Word), s.env.agenda = .host (.write off strb wdata) :: rest →
      (isBusError (.write off strb wdata) →
        step s = .next ((s.popped rest).answered
          (s.blk.raise .busError (0#12 ++ strb ++ 0#3 ++ 1#1 ++ off)) (.error none))) ∧
      (¬ isBusError (.write off strb wdata) → ∃ t, step s = .next t ∧ t.env.resp = .done none))

/-- Every read but one of TIMER while the timer runs in a run without time answers the 32-bit register at its offset,
and leaves the whole state but the response as it was. The read of TIMER left out is stated in
TimerReadsAreExactOrInRange. (R209, R700, 10_state.md section 1) -/
def Obligations.MappedReadsReturnTheRegister : Prop :=
    ∀ (off : Offset) (i : Instr) (s : State), decode (.host (.read off)) = .ok i →
    (i = .rdTimer → s.blk.tickEn = false ∨ s.env.timed = true) →
    ∃ v, s.blk.regAt off = some v ∧ exec i s = .next (s.answered s.blk (.done (some v)))

/-- RD_ID, RD_CTRL, RD_STATUS, RD_ERR_CAUSE, RD_ERR_INFO, RD_IRQ_EN, RD_CFG, RD_PERIOD, RD_TICK_COUNT, RD_MISSED,
RD_SETPOINT, RD_DATA and RD_CMD complete in every state: each answers its value (ID the constant, CMD 0) and leaves
the block, and everything but the response, unchanged. (R701, R703, R707, R709, R713, R715, R718, R719, R728, R730,
R732) -/
def Obligations.ControlRegisterReads : Prop :=
    ∀ s : State,
    exec .rdId s = .next (s.answered s.blk (.done (some 0x53570007#32))) ∧
    exec .rdCtrl s = .next (s.answered s.blk (.done (some (0#31 ++ BitVec.ofBool s.blk.tickEn)))) ∧
    exec .rdStatus s = .next (s.answered s.blk (.done (some s.blk.statusWord))) ∧
    exec .rdErrCause s = .next (s.answered s.blk (.done (some (0#28 ++ s.blk.errCause.code)))) ∧
    exec .rdErrInfo s = .next (s.answered s.blk (.done (some s.blk.errInfo))) ∧
    exec .rdIrqEn s = .next (s.answered s.blk (.done (some s.blk.irqEn.toWord))) ∧
    exec .rdCfg s = .next (s.answered s.blk (.done (some (s.blk.cfg.pwmMax ++ 0#7 ++ BitVec.ofBool s.blk.cfg.dutySrc ++ s.blk.cfg.pwmCh)))) ∧
    exec .rdPeriod s = .next (s.answered s.blk (.done (some s.blk.period))) ∧
    exec .rdTickCount s = .next (s.answered s.blk (.done (some s.blk.tickCount))) ∧
    exec .rdMissed s = .next (s.answered s.blk (.done (some s.blk.missed))) ∧
    exec .rdSetpoint s = .next (s.answered s.blk (.done (some s.blk.setpoint))) ∧
    exec .rdData s = .next (s.answered s.blk (.done (some s.blk.data))) ∧
    exec .rdCmd s = .next (s.answered s.blk (.done (some 0#32)))

/-- RD_RESULT, RD_LAST_OUT, RD_LAST_PWM, the five RD_SNAP reads and the ten window slot reads complete in every state:
each answers its register and leaves the block, and everything but the response, unchanged. (R721, R722, R723, R724,
R725, R726, R727, R734, R735, R739, R740, R744) -/
def Obligations.StatisticRegisterReads : Prop :=
    ∀ s : State,
    exec .rdResult s = .next (s.answered s.blk (.done (some s.blk.result))) ∧
    exec .rdLastOut s = .next (s.answered s.blk (.done (some s.blk.lastOut))) ∧
    exec .rdLastPwm s = .next (s.answered s.blk (.done (some s.blk.lastPwm))) ∧
    exec .rdSnapVmean s = .next (s.answered s.blk (.done (some s.blk.snapVmean))) ∧
    exec .rdSnapVsd s = .next (s.answered s.blk (.done (some s.blk.snapVsd))) ∧
    exec .rdSnapDmean s = .next (s.answered s.blk (.done (some s.blk.snapDmean))) ∧
    exec .rdSnapDsd s = .next (s.answered s.blk (.done (some s.blk.snapDsd))) ∧
    exec .rdSnapTick s = .next (s.answered s.blk (.done (some s.blk.snapTick))) ∧
    exec .rdVw0 s = .next (s.answered s.blk (.done (some s.blk.vw.s0))) ∧
    exec .rdVw1 s = .next (s.answered s.blk (.done (some s.blk.vw.s1))) ∧
    exec .rdVw2 s = .next (s.answered s.blk (.done (some s.blk.vw.s2))) ∧
    exec .rdVw3 s = .next (s.answered s.blk (.done (some s.blk.vw.s3))) ∧
    exec .rdVw4 s = .next (s.answered s.blk (.done (some s.blk.vw.s4))) ∧
    exec .rdDw0 s = .next (s.answered s.blk (.done (some s.blk.dw.s0))) ∧
    exec .rdDw1 s = .next (s.answered s.blk (.done (some s.blk.dw.s1))) ∧
    exec .rdDw2 s = .next (s.answered s.blk (.done (some s.blk.dw.s2))) ∧
    exec .rdDw3 s = .next (s.answered s.blk (.done (some s.blk.dw.s3))) ∧
    exec .rdDw4 s = .next (s.answered s.blk (.done (some s.blk.dw.s4)))

/-- RD_TIMER completes in every state and changes nothing of the block. Stopped, or in a run that counts clock edges,
it answers the count; in a state of the invariant it answers 0 while TICK_EN = 0; running in a run without time it
answers some value in [0, PERIOD − 1], or any when PERIOD = 0, and the model's draw counter advances. The two kinds of
run and that counter are the model's choice (assumption 4). (R717, R504, assumption 4 (DESIGN CHOICE)) -/
def Obligations.TimerReadsAreExactOrInRange : Prop :=
    (∀ s : State, s.blk.tickEn = false ∨ s.env.timed = true →
      exec .rdTimer s = .next (s.answered s.blk (.done (some s.blk.timer)))) ∧
    (∀ s : State, s.Inv → s.blk.tickEn = false →
      exec .rdTimer s = .next (s.answered s.blk (.done (some 0#32)))) ∧
    (∀ s : State, s.blk.tickEn = true → s.env.timed = false →
      ∃ v : Word, exec .rdTimer s =
          .next { blk := s.blk, env := { s.env with draws := s.env.draws + 1, resp := .done (some v) } } ∧
        (s.blk.period ≠ 0#32 → v.toNat ≤ s.blk.period.toNat - 1))

/-- Bit 0 of the STATUS word is phase != IDLE, bit 1 SP_PENDING, bits 2 to 7 the sticky bits in R705's order, bits
[11:8] the phase code, which is R130's: IDLE 0, SETTGT 1, REFRESH 2, COMPUTE 3, GETOUT 4, PWMWR 5, GETVEL 6, GETRAW 7,
COMMIT 8; and bits [31:12] are 0. (R131, R705) -/
def Obligations.StatusWordFields : Prop :=
    ∀ b : Block,
    b.statusWord.getLsbD 0 = decide (b.phase ≠ .idle) ∧ b.statusWord.getLsbD 1 = b.spPending ∧
    b.statusWord.getLsbD 2 = b.sticky.tickDone ∧ b.statusWord.getLsbD 3 = b.sticky.overrun ∧
    b.statusWord.getLsbD 4 = b.sticky.cmdErr ∧ b.statusWord.getLsbD 5 = b.sticky.cfgErr ∧
    b.statusWord.getLsbD 6 = b.sticky.busErr ∧ b.statusWord.getLsbD 7 = b.sticky.pwmSat ∧
    b.statusWord.extractLsb' 8 4 = b.phase.code ∧ b.statusWord.extractLsb' 12 20 = 0#20 ∧
    (∀ code : BitVec 4,
      (b.phase, code) ∈ [(Phase.idle, 0#4), (.settgt, 1#4), (.refresh, 2#4), (.compute, 3#4), (.getout, 4#4), (.pwmwr, 5#4),
        (.getvel, 6#4), (.getraw, 7#4), (.commit, 8#4)] ↔ b.statusWord.extractLsb' 8 4 = code)

/-- A full-strobe write of CTRL completes in every state, locked or not: TICK_EN takes wdata bit 0, TIMER becomes 0
when that changes TICK_EN and stays otherwise, and no other state of the block changes, the tick in progress included.
(R704) -/
def Obligations.WriteCtrlStartsAndStopsTheTimer : Prop :=
    ∀ (s : State) (wdata : Word), exec (.wrCtrl fullStrobe wdata) s =
    .next (s.answered
      { s.blk with
        tickEn := wdata.getLsbD 0
        timer := if s.blk.tickEn = wdata.getLsbD 0 then s.blk.timer else 0#32 } (.done none))

/-- A full-strobe write of STATUS completes in every state and changes only the sticky bits: the STATUS word
afterwards is the one before with bits 2 to 7 of wdata cleared in it; ERR_CAUSE, ERR_INFO and all else stay. (R706) -/
def Obligations.WriteStatusClearsTheBitsWritten : Prop :=
    ∀ (s : State) (wdata : Word), ∃ e : EventBits,
    exec (.wrStatus fullStrobe wdata) s = .next (s.answered { s.blk with sticky := e } (.done none)) ∧
    ({ s.blk with sticky := e } : Block).statusWord = s.blk.statusWord &&& ~~~(wdata &&& 0xFC#32)

/-- A full-strobe write of IRQ_EN completes in every state and changes only IRQ_EN: a read of it answers wdata & 0xFC,
and irq is then 1 exactly if a sticky bit enabled by wdata is set. (R710, R711) -/
def Obligations.WriteIrqEnKeepsBits2To7 : Prop :=
    ∀ (s : State) (wdata : Word), ∃ e : EventBits,
    exec (.wrIrqEn fullStrobe wdata) s = .next (s.answered { s.blk with irqEn := e } (.done none)) ∧
    e.toWord = wdata &&& 0x000000FC#32 ∧
    (({ s.blk with irqEn := e } : Block).irq = true ↔ s.blk.statusWord &&& wdata &&& 0xFC#32 ≠ 0#32)

/-- With full strobes each completes in every state. WR_ERR_CAUSE zeroes ERR_CAUSE and ERR_INFO, WR_MISSED zeroes
MISSED, whatever the data; WR_SETPOINT stores the pattern and sets SP_PENDING, and in SETTGT the block goes on holding
the request word it asserts, whose value the write would otherwise change (assumption 19); WR_DATA stores the pattern.
Nothing else of the block changes. (R708, R720, R729, R731, R331, R524, assumption 19 (DEDUCED)) -/
def Obligations.PlainRegisterWrites : Prop :=
    ∀ (s : State) (wdata : Word),
    exec (.wrErrCause fullStrobe wdata) s =
      .next (s.answered { s.blk with errCause := .noError, errInfo := 0#32 } (.done none)) ∧
    exec (.wrMissed fullStrobe wdata) s = .next (s.answered { s.blk with missed := 0#32 } (.done none)) ∧
    (s.blk.phase ≠ .settgt → exec (.wrSetpoint fullStrobe wdata) s =
      .next (s.answered { s.blk with setpoint := wdata, spPending := true } (.done none))) ∧
    (s.blk.phase = .settgt → exec (.wrSetpoint fullStrobe wdata) s =
      .next (s.answered
        { s.blk with setpoint := wdata, spPending := true, heldTarget := some (s.blk.heldTarget.getD s.blk.setpoint) }
        (.done none))) ∧
    exec (.wrData fullStrobe wdata) s = .next (s.answered { s.blk with data := wdata } (.done none))

/-- With full strobes: while TICK_EN = 0 and no tick is in progress, WR_CFG stores PWM_CH, DUTY_SRC and PWM_MAX from
their fields (so CFG reads wdata & 0xFFFF01FF) and WR_PERIOD stores wdata, and nothing else changes. While TICK_EN = 1
or a tick is in progress, each only raises CFG_LOCKED, with ERR_INFO 0x000F1018 or 0x000F101C, and is no bus error.
(R712, R714, R716) -/
def Obligations.ConfigurationWritesAndLock : Prop :=
    ∀ (s : State) (wdata : Word),
    (s.blk.tickEn = false ∧ s.blk.phase = .idle →
      (∃ c : Cfg, exec (.wrCfg fullStrobe wdata) s = .next (s.answered { s.blk with cfg := c } (.done none)) ∧
        c.pwmCh = wdata.extractLsb' 0 8 ∧ c.dutySrc = wdata.getLsbD 8 ∧ c.pwmMax = wdata.extractLsb' 16 16 ∧
        c.toWord = wdata &&& 0xFFFF01FF#32) ∧
      exec (.wrPeriod fullStrobe wdata) s = .next (s.answered { s.blk with period := wdata } (.done none))) ∧
    (s.blk.tickEn = true ∨ s.blk.phase ≠ .idle →
      exec (.wrCfg fullStrobe wdata) s =
        .next (s.answered (s.blk.raise .cfgLocked 0x000F1018#32) (.done none)) ∧
      exec (.wrPeriod fullStrobe wdata) s =
        .next (s.answered (s.blk.raise .cfgLocked 0x000F101C#32) (.done none)))

/-- For each of the ten writable registers, a write with any strobe mask but 0b1111 answers the error response and
changes nothing but what raise BUS_ERROR records; CMD executes nothing, and CFG and PERIOD report BUS_ERROR even while
locked. (R202, R205, R733, R811) -/
def Obligations.PartialStrobeWritesAreBusErrors : Prop :=
    ∀ (s : State) (strb : Strobe) (wdata : Word), strb ≠ 0xF#4 →
    exec (.wrCtrl strb wdata) s =
      .next (s.answered (s.blk.raise .busError (0#12 ++ strb ++ 0#3 ++ 0x1004#13)) (.error none)) ∧
    exec (.wrStatus strb wdata) s =
      .next (s.answered (s.blk.raise .busError (0#12 ++ strb ++ 0#3 ++ 0x1008#13)) (.error none)) ∧
    exec (.wrErrCause strb wdata) s =
      .next (s.answered (s.blk.raise .busError (0#12 ++ strb ++ 0#3 ++ 0x100C#13)) (.error none)) ∧
    exec (.wrIrqEn strb wdata) s =
      .next (s.answered (s.blk.raise .busError (0#12 ++ strb ++ 0#3 ++ 0x1014#13)) (.error none)) ∧
    exec (.wrCfg strb wdata) s =
      .next (s.answered (s.blk.raise .busError (0#12 ++ strb ++ 0#3 ++ 0x1018#13)) (.error none)) ∧
    exec (.wrPeriod strb wdata) s =
      .next (s.answered (s.blk.raise .busError (0#12 ++ strb ++ 0#3 ++ 0x101C#13)) (.error none)) ∧
    exec (.wrMissed strb wdata) s =
      .next (s.answered (s.blk.raise .busError (0#12 ++ strb ++ 0#3 ++ 0x1028#13)) (.error none)) ∧
    exec (.wrSetpoint strb wdata) s =
      .next (s.answered (s.blk.raise .busError (0#12 ++ strb ++ 0#3 ++ 0x102C#13)) (.error none)) ∧
    exec (.wrData strb wdata) s =
      .next (s.answered (s.blk.raise .busError (0#12 ++ strb ++ 0#3 ++ 0x1030#13)) (.error none)) ∧
    exec (.wrCmd strb wdata) s =
      .next (s.answered (s.blk.raise .busError (0#12 ++ strb ++ 0#3 ++ 0x1034#13)) (.error none))

/-- For each of the 22 read-only registers, a write with any strobes and data answers the error response and changes
nothing but what raise BUS_ERROR({12'b0, strb, 3'b0, 1, off}) records. (R702) -/
def Obligations.ReadOnlyWritesAreBusErrors : Prop :=
    ∀ (s : State) (strb : Strobe) (wdata : Word),
    exec (.wrIdBuserr strb wdata) s =
      .next (s.answered (s.blk.raise .busError (0#12 ++ strb ++ 0#3 ++ 0x1000#13)) (.error none)) ∧
    exec (.wrErrInfoBuserr strb wdata) s =
      .next (s.answered (s.blk.raise .busError (0#12 ++ strb ++ 0#3 ++ 0x1010#13)) (.error none)) ∧
    exec (.wrTimerBuserr strb wdata) s =
      .next (s.answered (s.blk.raise .busError (0#12 ++ strb ++ 0#3 ++ 0x1020#13)) (.error none)) ∧
    exec (.wrTickCountBuserr strb wdata) s =
      .next (s.answered (s.blk.raise .busError (0#12 ++ strb ++ 0#3 ++ 0x1024#13)) (.error none)) ∧
    exec (.wrResultBuserr strb wdata) s =
      .next (s.answered (s.blk.raise .busError (0#12 ++ strb ++ 0#3 ++ 0x1038#13)) (.error none)) ∧
    exec (.wrLastOutBuserr strb wdata) s =
      .next (s.answered (s.blk.raise .busError (0#12 ++ strb ++ 0#3 ++ 0x103C#13)) (.error none)) ∧
    exec (.wrLastPwmBuserr strb wdata) s =
      .next (s.answered (s.blk.raise .busError (0#12 ++ strb ++ 0#3 ++ 0x1040#13)) (.error none)) ∧
    exec (.wrSnapVmeanBuserr strb wdata) s =
      .next (s.answered (s.blk.raise .busError (0#12 ++ strb ++ 0#3 ++ 0x1044#13)) (.error none)) ∧
    exec (.wrSnapVsdBuserr strb wdata) s =
      .next (s.answered (s.blk.raise .busError (0#12 ++ strb ++ 0#3 ++ 0x1048#13)) (.error none)) ∧
    exec (.wrSnapDmeanBuserr strb wdata) s =
      .next (s.answered (s.blk.raise .busError (0#12 ++ strb ++ 0#3 ++ 0x104C#13)) (.error none)) ∧
    exec (.wrSnapDsdBuserr strb wdata) s =
      .next (s.answered (s.blk.raise .busError (0#12 ++ strb ++ 0#3 ++ 0x1050#13)) (.error none)) ∧
    exec (.wrSnapTickBuserr strb wdata) s =
      .next (s.answered (s.blk.raise .busError (0#12 ++ strb ++ 0#3 ++ 0x1054#13)) (.error none)) ∧
    exec (.wrVw0Buserr strb wdata) s =
      .next (s.answered (s.blk.raise .busError (0#12 ++ strb ++ 0#3 ++ 0x1060#13)) (.error none)) ∧
    exec (.wrVw1Buserr strb wdata) s =
      .next (s.answered (s.blk.raise .busError (0#12 ++ strb ++ 0#3 ++ 0x1064#13)) (.error none)) ∧
    exec (.wrVw2Buserr strb wdata) s =
      .next (s.answered (s.blk.raise .busError (0#12 ++ strb ++ 0#3 ++ 0x1068#13)) (.error none)) ∧
    exec (.wrVw3Buserr strb wdata) s =
      .next (s.answered (s.blk.raise .busError (0#12 ++ strb ++ 0#3 ++ 0x106C#13)) (.error none)) ∧
    exec (.wrVw4Buserr strb wdata) s =
      .next (s.answered (s.blk.raise .busError (0#12 ++ strb ++ 0#3 ++ 0x1070#13)) (.error none)) ∧
    exec (.wrDw0Buserr strb wdata) s =
      .next (s.answered (s.blk.raise .busError (0#12 ++ strb ++ 0#3 ++ 0x1080#13)) (.error none)) ∧
    exec (.wrDw1Buserr strb wdata) s =
      .next (s.answered (s.blk.raise .busError (0#12 ++ strb ++ 0#3 ++ 0x1084#13)) (.error none)) ∧
    exec (.wrDw2Buserr strb wdata) s =
      .next (s.answered (s.blk.raise .busError (0#12 ++ strb ++ 0#3 ++ 0x1088#13)) (.error none)) ∧
    exec (.wrDw3Buserr strb wdata) s =
      .next (s.answered (s.blk.raise .busError (0#12 ++ strb ++ 0#3 ++ 0x108C#13)) (.error none)) ∧
    exec (.wrDw4Buserr strb wdata) s =
      .next (s.answered (s.blk.raise .busError (0#12 ++ strb ++ 0#3 ++ 0x1090#13)) (.error none))

/-- For every full-strobe write that answers a next state, each byte of the register window reads as before, but for
the lanes of the register written and of those its rule also names: TIMER for CTRL, ERR_INFO for ERR_CAUSE, STATUS
(SP_PENDING) for SETPOINT, and STATUS, ERR_CAUSE and ERR_INFO for a locked CFG or PERIOD. No latch L_OUT, L_PWM,
L_VEL, L_DUTY changes, nor the request word held for the engine, but that WR_SETPOINT in SETTGT keeps it apart from
SETPOINT. (R206, R209, 43_register_access.md sections 2, 3 and 5, assumption 19 (DEDUCED)) -/
def Obligations.RegisterWriteFrames : Prop :=
    ∀ (s t : State) (wdata : Word),
    (exec (.wrCtrl fullStrobe wdata) s = .next t → s.blk.sameBytesBut t.blk [0x004#12, 0x020#12] ∧ s.blk.sameHidden t.blk) ∧
    (exec (.wrStatus fullStrobe wdata) s = .next t → s.blk.sameBytesBut t.blk [0x008#12] ∧ s.blk.sameHidden t.blk) ∧
    (exec (.wrErrCause fullStrobe wdata) s = .next t → s.blk.sameBytesBut t.blk [0x00C#12, 0x010#12] ∧ s.blk.sameHidden t.blk) ∧
    (exec (.wrIrqEn fullStrobe wdata) s = .next t → s.blk.sameBytesBut t.blk [0x014#12] ∧ s.blk.sameHidden t.blk) ∧
    (exec (.wrMissed fullStrobe wdata) s = .next t → s.blk.sameBytesBut t.blk [0x028#12] ∧ s.blk.sameHidden t.blk) ∧
    (exec (.wrSetpoint fullStrobe wdata) s = .next t → s.blk.sameBytesBut t.blk [0x02C#12, 0x008#12] ∧ s.blk.sameLatches t.blk ∧ (s.blk.phase ≠ .settgt → t.blk.heldTarget = s.blk.heldTarget)) ∧
    (exec (.wrData fullStrobe wdata) s = .next t → s.blk.sameBytesBut t.blk [0x030#12] ∧ s.blk.sameHidden t.blk) ∧
    (exec (.wrCfg fullStrobe wdata) s = .next t → s.blk.sameBytesBut t.blk [0x018#12, 0x008#12, 0x00C#12, 0x010#12] ∧ s.blk.sameHidden t.blk) ∧
    (exec (.wrPeriod fullStrobe wdata) s = .next t → s.blk.sameBytesBut t.blk [0x01C#12, 0x008#12, 0x00C#12, 0x010#12] ∧ s.blk.sameHidden t.blk)

/-- For every command word that decodes to an instruction, WR_CMD with full strobes answers exactly what that
instruction answers; and whatever the word, legal or not, it answers a next state in which only the block and the
response, which is no error, may differ; an illegal word only raises CMD_ILLEGAL. With fewer strobes it is a bus error
and executes nothing. (R733) -/
def Obligations.CmdWriteRunsTheCommand : Prop :=
    (∀ (c : Word) (i : Instr) (s : State), decode (.cmd c) = .ok i → exec (.wrCmd fullStrobe c) s = exec i s) ∧
    (∀ (c : Word) (s : State), illegalCommandWord c →
      exec (.wrCmd fullStrobe c) s = .next (s.answered (s.blk.raise .cmdIllegal c) (.done none))) ∧
    (∀ (c : Word) (s : State), ∃ b : Block, exec (.wrCmd fullStrobe c) s = .next (s.answered b (.done none))) ∧
    ∀ (c : Word) (strb : Strobe) (s : State), strb ≠ 0xF#4 →
      exec (.wrCmd strb c) s =
        .next (s.answered (s.blk.raise .busError (0#12 ++ strb ++ 0#3 ++ 0x1034#13)) (.error none))

/-- With TICK_EN = 0 and no tick in progress, PUSH moves each slot of the selected window one place toward slot 0,
puts DATA bit for bit in slot 4, and changes neither the other window nor any other state. With TICK_EN = 1 it only
raises CMD_OWNERSHIP; otherwise, with a tick in progress, it only raises CMD_BUSY; the information is the command
word. (R401, R601) -/
def Obligations.PushShiftsTheSelectedWindow : Prop :=
    (∀ s : State, s.blk.tickEn = false ∧ s.blk.phase = .idle →
      exec (.push .vw) s = .next (s.answered
        { s.blk with vw := { s0 := s.blk.vw.s1, s1 := s.blk.vw.s2, s2 := s.blk.vw.s3, s3 := s.blk.vw.s4, s4 := s.blk.data } }
        (.done none)) ∧
      exec (.push .dw) s = .next (s.answered
        { s.blk with dw := { s0 := s.blk.dw.s1, s1 := s.blk.dw.s2, s2 := s.blk.dw.s3, s3 := s.blk.dw.s4, s4 := s.blk.data } }
        (.done none))) ∧
    (∀ s : State, (s.blk.tickEn = true →
      exec (.push .vw) s = .next (s.answered (s.blk.raise .cmdOwnership 0x00000001#32) (.done none))) ∧
    (s.blk.tickEn = false ∧ s.blk.phase ≠ .idle →
      exec (.push .vw) s = .next (s.answered (s.blk.raise .cmdBusy 0x00000001#32) (.done none)))) ∧
    (∀ s : State, (s.blk.tickEn = true →
      exec (.push .dw) s = .next (s.answered (s.blk.raise .cmdOwnership 0x00000011#32) (.done none))) ∧
    (s.blk.tickEn = false ∧ s.blk.phase ≠ .idle →
      exec (.push .dw) s = .next (s.answered (s.blk.raise .cmdBusy 0x00000011#32) (.done none))))

/-- With TICK_EN = 0 and no tick in progress, CLEAR makes the five slots of the selected window +0.0 and changes
nothing else. With TICK_EN = 1 it only raises CMD_OWNERSHIP; otherwise, with a tick in progress, it only raises
CMD_BUSY; the information is the command word. (R403, R606) -/
def Obligations.ClearZeroesTheSelectedWindow : Prop :=
    (∀ s : State, s.blk.tickEn = false ∧ s.blk.phase = .idle →
      exec (.clear .vw) s = .next (s.answered
        { s.blk with vw := { s0 := 0#32, s1 := 0#32, s2 := 0#32, s3 := 0#32, s4 := 0#32 } } (.done none)) ∧
      exec (.clear .dw) s = .next (s.answered
        { s.blk with dw := { s0 := 0#32, s1 := 0#32, s2 := 0#32, s3 := 0#32, s4 := 0#32 } } (.done none)) ∧
      Block.reset.vw = { s0 := 0#32, s1 := 0#32, s2 := 0#32, s3 := 0#32, s4 := 0#32 } ∧
      Window.mean Block.reset.vw = 0#32 ∧ Window.stddev Block.reset.vw = 0#32) ∧
    (∀ s : State, (s.blk.tickEn = true →
      exec (.clear .vw) s = .next (s.answered (s.blk.raise .cmdOwnership 0x00000005#32) (.done none))) ∧
    (s.blk.tickEn = false ∧ s.blk.phase ≠ .idle →
      exec (.clear .vw) s = .next (s.answered (s.blk.raise .cmdBusy 0x00000005#32) (.done none)))) ∧
    (∀ s : State, (s.blk.tickEn = true →
      exec (.clear .dw) s = .next (s.answered (s.blk.raise .cmdOwnership 0x00000015#32) (.done none))) ∧
    (s.blk.tickEn = false ∧ s.blk.phase ≠ .idle →
      exec (.clear .dw) s = .next (s.answered (s.blk.raise .cmdBusy 0x00000015#32) (.done none))))

/-- For either window and in every state, MEAN sets RESULT to the left fold of f32_add from +0.0 over slots 0 to 4
divided by 5.0; STDDEV sets RESULT to the square root of the clamped difference of the mean of squares and the square
of the mean, each operation rounded on its own. No window, flag or other register changes. (R410, R420, R602, R603) -/
def Obligations.MeanAndStddevFillResult : Prop :=
    let acc : Window → Word := fun S =>
      F32.add (F32.add (F32.add (F32.add (F32.add 0x00000000#32 S.s0) S.s1) S.s2) S.s3) S.s4
    let acc2 : Window → Word := fun S =>
      F32.add (F32.add (F32.add (F32.add (F32.add 0x00000000#32 (F32.mul S.s0 S.s0)) (F32.mul S.s1 S.s1))
        (F32.mul S.s2 S.s2)) (F32.mul S.s3 S.s3)) (F32.mul S.s4 S.s4)
    let m : Window → Word := fun S => F32.div (acc S) 0x40A00000#32
    let var : Window → Word := fun S => F32.sub (F32.div (acc2 S) 0x40A00000#32) (F32.mul (m S) (m S))
    let sd : Window → Word := fun S => F32.sqrt (if F32.lt (var S) 0x00000000#32 then 0x00000000#32 else var S)
    ∀ s : State,
      exec (.mean .vw) s = .next (s.answered { s.blk with result := m s.blk.vw } (.done none)) ∧
      exec (.mean .dw) s = .next (s.answered { s.blk with result := m s.blk.dw } (.done none)) ∧
      exec (.stddev .vw) s = .next (s.answered { s.blk with result := sd s.blk.vw } (.done none)) ∧
      exec (.stddev .dw) s = .next (s.answered { s.blk with result := sd s.blk.dw } (.done none))

/-- In every state SNAP sets the five SNAP registers to the mean and stddev of VW and DW and to TICK_COUNT, all of the
state at that step, and changes nothing else; NOP changes nothing but the response. (R604, R605) -/
def Obligations.SnapTakesFiveValuesOfOneState : Prop :=
    ∀ s : State,
    exec .snap s = .next (s.answered
      { s.blk with
        snapVmean := s.blk.vw.mean, snapVsd := s.blk.vw.stddev
        snapDmean := s.blk.dw.mean, snapDsd := s.blk.dw.stddev
        snapTick := s.blk.tickCount } (.done none)) ∧
    exec .nop s = .next (s.answered s.blk (.done none))

/-- With TICK_EN = 0 and no tick in progress, FORCE_TICK moves the phase to SETTGT if a setpoint is pending and to
REFRESH otherwise, so BUSY becomes 1, and changes nothing else, TIMER and MISSED included. With TICK_EN = 1 it only
raises CMD_OWNERSHIP; otherwise, with a tick in progress, it only raises CMD_BUSY. (R607) -/
def Obligations.ForceTickStartsATick : Prop :=
    (∀ s : State, s.blk.tickEn = false ∧ s.blk.phase = .idle →
      exec .forceTick s = .next (s.answered
        { s.blk with phase := if s.blk.spPending = true then .settgt else .refresh } (.done none)) ∧
      ({ s.blk with phase := if s.blk.spPending = true then .settgt else .refresh } : Block).statusWord.getLsbD 0 = true) ∧
    ∀ s : State, (s.blk.tickEn = true →
      exec .forceTick s = .next (s.answered (s.blk.raise .cmdOwnership 0x00000006#32) (.done none))) ∧
    (s.blk.tickEn = false ∧ s.blk.phase ≠ .idle →
      exec .forceTick s = .next (s.answered (s.blk.raise .cmdBusy 0x00000006#32) (.done none)))

/-- For each command that answers a next state, each byte of the register window reads as before but for the lanes of
the registers its rule names: the selected window for PUSH and CLEAR, RESULT for MEAN and STDDEV, the SNAP registers
for SNAP, STATUS for FORCE_TICK, and STATUS, ERR_CAUSE and ERR_INFO where the command can be rejected. No latch
changes, nor the request word held for the engine. (R206, R600, 42_commands.md section 2) -/
def Obligations.CommandFrames : Prop :=
    ∀ s t : State,
    (exec .nop s = .next t → s.blk.sameBytesBut t.blk [] ∧ s.blk.sameHidden t.blk) ∧
    (exec (.push .vw) s = .next t → s.blk.sameBytesBut t.blk [0x008#12, 0x00C#12, 0x010#12, 0x060#12, 0x064#12, 0x068#12, 0x06C#12, 0x070#12] ∧ s.blk.sameHidden t.blk) ∧
    (exec (.push .dw) s = .next t → s.blk.sameBytesBut t.blk [0x008#12, 0x00C#12, 0x010#12, 0x080#12, 0x084#12, 0x088#12, 0x08C#12, 0x090#12] ∧ s.blk.sameHidden t.blk) ∧
    (exec (.clear .vw) s = .next t → s.blk.sameBytesBut t.blk [0x008#12, 0x00C#12, 0x010#12, 0x060#12, 0x064#12, 0x068#12, 0x06C#12, 0x070#12] ∧ s.blk.sameHidden t.blk) ∧
    (exec (.clear .dw) s = .next t → s.blk.sameBytesBut t.blk [0x008#12, 0x00C#12, 0x010#12, 0x080#12, 0x084#12, 0x088#12, 0x08C#12, 0x090#12] ∧ s.blk.sameHidden t.blk) ∧
    (exec (.mean .vw) s = .next t → s.blk.sameBytesBut t.blk [0x038#12] ∧ s.blk.sameHidden t.blk) ∧
    (exec (.mean .dw) s = .next t → s.blk.sameBytesBut t.blk [0x038#12] ∧ s.blk.sameHidden t.blk) ∧
    (exec (.stddev .vw) s = .next t → s.blk.sameBytesBut t.blk [0x038#12] ∧ s.blk.sameHidden t.blk) ∧
    (exec (.stddev .dw) s = .next t → s.blk.sameBytesBut t.blk [0x038#12] ∧ s.blk.sameHidden t.blk) ∧
    (exec .snap s = .next t → s.blk.sameBytesBut t.blk [0x044#12, 0x048#12, 0x04C#12, 0x050#12, 0x054#12] ∧ s.blk.sameHidden t.blk) ∧
    (exec .forceTick s = .next t → s.blk.sameBytesBut t.blk [0x008#12, 0x00C#12, 0x010#12] ∧ s.blk.sameHidden t.blk)

/-- In a run without time with TICK_EN = 1, TIMER's step with no tick in progress moves the phase to SETTGT or REFRESH
and changes nothing else. With a tick in progress it leaves the phase alone, raises MISSED by one up to 0xFFFFFFFF,
and raises TICK_OVERRUN with TICK_COUNT as information. With TICK_EN = 0 it does nothing; that the step then answers a
next state is the model's choice (assumption 12), as is the run without time (assumption 4). (R502, R503, R510, R504,
assumption 12 (DESIGN CHOICE), assumption 4 (DESIGN CHOICE)) -/
def Obligations.TimerEventStartsOrIsDropped : Prop :=
    ∀ (s : State) (rest : List Event), s.env.agenda = .timer :: rest → s.env.timed = false →
    (s.blk.tickEn = true ∧ s.blk.phase = .idle →
      step s = .next { blk := { s.blk with phase := if s.blk.spPending = true then .settgt else .refresh },
                       env := { s.env with agenda := rest } }) ∧
    (s.blk.tickEn = true ∧ s.blk.phase ≠ .idle →
      step s = .next
        { blk := Block.raise
            { s.blk with missed := if s.blk.missed = 0xFFFFFFFF#32 then s.blk.missed else s.blk.missed + 1#32 }
            .tickOverrun s.blk.tickCount,
          env := { s.env with agenda := rest } }) ∧
    (s.blk.tickEn = false → step s = .next (s.popped rest))

/-- In a run that counts time, TIMER's step with TICK_EN = 0 makes TIMER 0; with TICK_EN = 1 and TIMER = u32(PERIOD −
1) it makes TIMER 0 and is a timer event, which starts a tick when idle and is dropped as an overrun otherwise; else
it adds 1 to TIMER. Nothing else changes. (R501) -/
def Obligations.ClockEdgeCountsAndFires : Prop :=
    ∀ (s : State) (rest : List Event), s.env.agenda = .timer :: rest → s.env.timed = true →
    (s.blk.tickEn = false →
      step s = .next { blk := { s.blk with timer := 0#32 }, env := { s.env with agenda := rest } }) ∧
    (s.blk.tickEn = true ∧ s.blk.timer ≠ s.blk.period - 1#32 →
      step s = .next { blk := { s.blk with timer := s.blk.timer + 1#32 }, env := { s.env with agenda := rest } }) ∧
    (s.blk.tickEn = true ∧ s.blk.timer = s.blk.period - 1#32 ∧ s.blk.phase = .idle →
      step s = .next
        { blk := { s.blk with timer := 0#32, phase := if s.blk.spPending = true then .settgt else .refresh },
          env := { s.env with agenda := rest } }) ∧
    (s.blk.tickEn = true ∧ s.blk.timer = s.blk.period - 1#32 ∧ s.blk.phase ≠ .idle →
      step s = .next
        { blk := Block.raise
            { s.blk with
              timer := 0#32
              missed := if s.blk.missed = 0xFFFFFFFF#32 then s.blk.missed else s.blk.missed + 1#32 }
            .tickOverrun s.blk.tickCount,
          env := { s.env with agenda := rest } })

/-- In its phase each engine request completes: E_SET_TARGET sends SETPOINT and clears SP_PENDING, or, where SETPOINT
was written while the request waited, sends the value held and leaves SP_PENDING at 1 (assumption 19); E_REFRESH and
E_COMPUTE write nothing; E_GET_OUT latches the reply in L_OUT; E_GET_VEL latches it in L_VEL and, with DUTY_SRC = 1,
the value sent as binary32 in L_DUTY; E_GET_RAW latches it in L_DUTY. The phase moves on, the request is logged once,
and nothing else changes. The conversion of the 16-bit value sent is exact. (R511, R512, R513, R514, R516, R517, R18,
R331, R524, assumption 19 (DEDUCED)) -/
def Obligations.EnginePhasesDoTheirTransactions : Prop :=
    (∀ s : State,
    (s.blk.phase = .settgt → s.blk.heldTarget = none → exec (.eSetTarget s.blk.setpoint) s =
      .next (s.engineAnswered { s.blk with spPending := false, phase := .refresh } (2#3 ++ s.blk.setpoint))) ∧
    (∀ v : Word, s.blk.phase = .settgt → s.blk.heldTarget = some v → exec (.eSetTarget v) s =
      .next (s.engineAnswered { s.blk with spPending := true, heldTarget := none, phase := .refresh } (2#3 ++ v))) ∧
    (s.blk.phase = .refresh → exec (.eRefresh 0#32) s =
      .next (s.engineAnswered { s.blk with phase := .compute } (0#3 ++ 0#32))) ∧
    (s.blk.phase = .compute → exec (.eCompute 0#32) s =
      .next (s.engineAnswered { s.blk with phase := .getout } (1#3 ++ 0#32))) ∧
    (s.blk.phase = .getout → exec (.eGetOut 0#32) s =
      .next (s.engineAnswered { s.blk with lOut := s.env.erdata, phase := .pwmwr } (4#3 ++ 0#32))) ∧
    (s.blk.phase = .getvel → s.blk.cfg.dutySrc = true → exec (.eGetVel 0#32) s =
      .next (s.engineAnswered
        { s.blk with
          lVel := s.env.erdata, lDuty := F32.ofInt (s.blk.lPwm.zeroExtend 32), phase := .commit } (3#3 ++ 0#32))) ∧
    (s.blk.phase = .getvel → s.blk.cfg.dutySrc = false → exec (.eGetVel 0#32) s =
      .next (s.engineAnswered { s.blk with lVel := s.env.erdata, phase := .getraw } (3#3 ++ 0#32))) ∧
    (s.blk.phase = .getraw → exec (.eGetRaw 0#32) s =
      .next (s.engineAnswered { s.blk with lDuty := s.env.erdata, phase := .commit } (5#3 ++ 0#32)))) ∧
    ∀ x : BitVec 16, F32.isFinite (F32.ofInt (x.zeroExtend 32)) = true ∧
      F32.value (F32.ofInt (x.zeroExtend 32)) = (x.toNat : Int) * 2 ^ 149

/-- In phase PWMWR with x the signed L_OUT, the request {PWM_CH, val} completes, where val is 0 for x < 0, PWM_MAX for
x > PWM_MAX and x otherwise: L_PWM takes val, the phase becomes GETVEL, the request is logged once; PWM_SATURATED is
raised with L_OUT as information exactly when x was outside the range; nothing else changes. (R515) -/
def Obligations.PwmWriteSendsTheClampedOutput : Prop :=
    ∀ (s : State) (val : BitVec 16), s.blk.phase = .pwmwr →
    (s.blk.lOut.toInt < 0 → val = 0#16) →
    (s.blk.lOut.toInt > s.blk.cfg.pwmMax.toNat → val = s.blk.cfg.pwmMax) →
    (0 ≤ s.blk.lOut.toInt → s.blk.lOut.toInt ≤ s.blk.cfg.pwmMax.toNat → (val.toNat : Int) = s.blk.lOut.toInt) →
    exec (.pwmWrite s.blk.cfg.pwmCh val) s =
      .next (s.pwmAnswered
        (if s.blk.lOut.toInt < 0 ∨ s.blk.lOut.toInt > s.blk.cfg.pwmMax.toNat then
          Block.raise { s.blk with lPwm := val, phase := .getvel } .pwmSaturated s.blk.lOut
        else { s.blk with lPwm := val, phase := .getvel }) (s.blk.cfg.pwmCh ++ val))

/-- Run in a phase other than its own, or with data other than the phase gives it, a port request leaves the whole
state as it is. This is the model's form of "issued only by SEQ" (assumption 5): step never runs one there. (R330,
R507, R508, assumption 5 (DESIGN CHOICE), assumption 19 (DEDUCED)) -/
def Obligations.UnissuedRequestsDoNothing : Prop :=
    ∀ s : State,
    (∀ d : Word, s.blk.phase ≠ .settgt ∨ d ≠ s.blk.heldTarget.getD s.blk.setpoint → exec (.eSetTarget d) s = .next s) ∧
    (∀ d : Word, s.blk.phase ≠ .refresh ∨ d ≠ 0#32 → exec (.eRefresh d) s = .next s) ∧
    (∀ d : Word, s.blk.phase ≠ .compute ∨ d ≠ 0#32 → exec (.eCompute d) s = .next s) ∧
    (∀ d : Word, s.blk.phase ≠ .getout ∨ d ≠ 0#32 → exec (.eGetOut d) s = .next s) ∧
    (∀ d : Word, s.blk.phase ≠ .getvel ∨ d ≠ 0#32 → exec (.eGetVel d) s = .next s) ∧
    (∀ d : Word, s.blk.phase ≠ .getraw ∨ d ≠ 0#32 → exec (.eGetRaw d) s = .next s) ∧
    (∀ (ch : BitVec 8) (val : BitVec 16),
      s.blk.phase ≠ .pwmwr ∨ ch ≠ s.blk.cfg.pwmCh ∨ val ≠ saturate s.blk.lOut s.blk.cfg.pwmMax →
        exec (.pwmWrite ch val) s = .next s)

/-- SEQ's step in phase COMMIT shifts L_VEL into VW and L_DUTY into DW, copies L_OUT to LAST_OUT and L_PWM zero-
extended to LAST_PWM, adds 1 to TICK_COUNT modulo 2^32, sets TICK_DONE and returns to IDLE, all in one step; nothing
else changes and no request is made. (R518) -/
def Obligations.CommitShowsTheTickAtOnce : Prop :=
    ∀ (s : State) (reply : Word) (rest : List Event), s.env.agenda = .seq reply :: rest → s.blk.phase = .commit →
    step s = .next
      { blk :=
          { s.blk with
            vw := { s0 := s.blk.vw.s1, s1 := s.blk.vw.s2, s2 := s.blk.vw.s3, s3 := s.blk.vw.s4, s4 := s.blk.lVel }
            dw := { s0 := s.blk.dw.s1, s1 := s.blk.dw.s2, s2 := s.blk.dw.s3, s3 := s.blk.dw.s4, s4 := s.blk.lDuty }
            lastOut := s.blk.lOut
            lastPwm := 0#16 ++ s.blk.lPwm
            tickCount := s.blk.tickCount + 1#32
            sticky := { s.blk.sticky with tickDone := true }
            phase := .idle },
        env := { s.env with agenda := rest } }

/-- When HOST presents an access that decodes to an instruction, step is exec of it in the state with the event taken
off. When SEQ is acknowledged in a phase that asserts a port request, step is exec of the instruction the request
decodes to, with the reply on ERDATA; such a request always decodes, to a well-formed instruction. Fetching from the
agenda (assumption 2), and the reply standing on ERDATA in PWMWR too, where R340 gives none (assumption 8), are the
model's choices. (R13, R17, R507, R508, R600, assumption 2 (DESIGN CHOICE), assumption 8 (DESIGN CHOICE)) -/
def Obligations.StepRunsTheDecodedInstruction : Prop :=
    ∀ (s : State) (rest : List Event),
    (∀ (a : Access) (i : Instr), s.env.agenda = .host a :: rest → decodeHost a = .ok i →
      step s = exec i (s.popped rest)) ∧
    (∀ (reply : Word) (w : PortWord), s.env.agenda = .seq reply :: rest → s.blk.portRequest = some w →
      ∃ i : Instr, decode w = .ok i ∧ i.wellFormed = true ∧
        step s = exec i { blk := s.blk, env := { s.env with agenda := rest, erdata := reply } })

/-- For every state and every word of the opcode table's numbering that decodes to an instruction, step from the state
with that word placed is exec of that instruction on the placed block, with the agenda as it was before. A placed host
access or command leaves the block as it was; a placed port request is then the one the block asserts. (R13, R300,
30_encoding.md, assumption 2 (DESIGN CHOICE)) -/
def Obligations.PlacedTableWordIsRunNext : Prop :=
    ∀ (s : State) (nbits w : Nat) (i : Instr), decodeTableWord nbits w = some i →
    step (s.withFetchWord nbits w) = exec i { blk := (s.withFetchWord nbits w).blk, env := s.env } ∧
    (nbits = 16 ∨ nbits = 32 → (s.withFetchWord nbits w).blk = s.blk) ∧
    (nbits = 24 ∨ nbits = 40 → (s.withFetchWord nbits w).blk.portRequest = some (encode i))

/-- From every state, SEQ's step answers a next state whose phase is the next of SETTGT, REFRESH, COMPUTE, GETOUT,
PWMWR, GETVEL, GETRAW (only with DUTY_SRC = 0), COMMIT, IDLE; in IDLE it stays. It makes exactly one engine request in
SETTGT, REFRESH, COMPUTE, GETOUT, GETVEL and GETRAW, exactly one PWM request in PWMWR, and none otherwise. The spec
gives SEQ no step in IDLE: that the event answers a next state there is the model's choice (assumption 12). (R507,
R508, R519, assumption 12 (DESIGN CHOICE)) -/
def Obligations.SeqStepFollowsThePhaseOrder : Prop :=
    ∀ (s : State) (reply : Word) (rest : List Event), s.env.agenda = .seq reply :: rest →
    ∃ t : State, step s = .next t ∧ t.env.agenda = rest ∧ t.blk.phase = s.blk.phase.next s.blk.cfg.dutySrc ∧
      t.env.engLog.length = s.env.engLog.length +
        (if s.blk.phase = .idle ∨ s.blk.phase = .pwmwr ∨ s.blk.phase = .commit then 0 else 1) ∧
      t.env.pwmLog.length = s.env.pwmLog.length + (if s.blk.phase = .pwmwr then 1 else 0)

/-- While a tick is in progress, no host access, command, timer event or clock edge changes the phase, the latches, or
makes a port request; in particular writing TICK_EN = 0 does not stop SEQ, and every trigger is dropped or rejected.
(R506, R520) -/
def Obligations.NothingButSeqMovesATickInProgress : Prop :=
    ∀ (s t : State) (ev : Event) (rest : List Event), s.env.agenda = ev :: rest → ev.isSeq = false → ev.isReset = false →
    s.blk.phase ≠ .idle → step s = .next t →
    t.blk.phase = s.blk.phase ∧ s.blk.sameLatches t.blk ∧ t.env.engLog = s.env.engLog ∧ t.env.pwmLog = s.env.pwmLog

/-- Take any state with a tick in progress and any agenda without a reset, host accesses, timer events and SEQ
acknowledges interleaved at will, that holds at least as many SEQ acknowledges as phases remain (at most 8). Then the
run reaches, within the agenda, a state with no tick in progress and TICK_COUNT exactly one more, and in no state
before it was the tick over. (R506, R519, R520) -/
def Obligations.TickCommitsWithinItsPhases : Prop :=
    ∀ s : State, s.blk.phase ≠ .idle → (∀ ev ∈ s.env.agenda, ev.isReset = false) →
    s.blk.phase.remaining ≤ (s.env.agenda.filter Event.isSeq).length →
    ∃ (k : Nat) (t : State), k ≤ s.env.agenda.length ∧ Sys2Proof.core.run k s = .next t ∧
      t.blk.phase = .idle ∧ t.blk.tickCount = s.blk.tickCount + 1#32 ∧
      ∀ (j : Nat) (u : State), j < k → Sys2Proof.core.run j s = .next u →
        u.blk.phase ≠ .idle ∧ u.blk.tickCount = s.blk.tickCount

/-- From SETTGT or REFRESH, with DUTY_SRC = 0 or 1, six to eight SEQ steps send E_SET_TARGET with the target (from
SETTGT only), E_REFRESH, E_COMPUTE, E_GET_OUT, one PWM word with the clamped reply of E_GET_OUT, E_GET_VEL, and
E_GET_RAW (with DUTY_SRC = 0 only), in that order. They leave VW with the velocity reply pushed, DW with the raw reply
pushed, or with DUTY_SRC = 1 the number sent, LAST_OUT the raw output, LAST_PWM the value sent, TICK_COUNT one more,
SETPOINT as it was, and the block idle. (R519, 41_tick.md section 3, assumption 19 (DEDUCED)) -/
def Obligations.WholeTickMovesTheEnginesAnswers : Prop :=
    ∀ (s : State) (setTarget : Bool) (r0 r1 r2 out r4 vel raw r7 : Word) (rest : List Event),
    s.blk.phase = (if setTarget then .settgt else .refresh) →
    s.env.agenda = (if setTarget then [.seq r0] else []) ++ [.seq r1, .seq r2, .seq out, .seq r4, .seq vel] ++
      (if s.blk.cfg.dutySrc then [] else [.seq raw]) ++ .seq r7 :: rest →
    ∃ (t : State) (duty : Word),
      Sys2Proof.core.run ((if setTarget then 1 else 0) + 5 + (if s.blk.cfg.dutySrc then 0 else 1) + 1) s = .next t ∧
      (s.blk.cfg.dutySrc = false → duty = raw) ∧
      (s.blk.cfg.dutySrc = true → F32.isFinite duty = true ∧
        F32.value duty = ((saturate out s.blk.cfg.pwmMax).toNat : Int) * 2 ^ 149) ∧
      t.blk.phase = .idle ∧ t.env.agenda = rest ∧ t.blk.setpoint = s.blk.setpoint ∧
      t.blk.vw = s.blk.vw.push vel ∧ t.blk.dw = s.blk.dw.push duty ∧ t.blk.lastOut = out ∧
      t.blk.lastPwm = 0#16 ++ saturate out s.blk.cfg.pwmMax ∧ t.blk.tickCount = s.blk.tickCount + 1#32 ∧
      t.blk.sticky.tickDone = true ∧
      t.env.pwmLog = (s.blk.cfg.pwmCh ++ saturate out s.blk.cfg.pwmMax) :: s.env.pwmLog ∧
      t.env.engLog = (if s.blk.cfg.dutySrc then [] else [5#3 ++ 0#32]) ++
        [3#3 ++ 0#32, 4#3 ++ 0#32, 1#3 ++ 0#32, 0#3 ++ 0#32] ++
        (if setTarget then [2#3 ++ s.blk.heldTarget.getD s.blk.setpoint] else []) ++ s.env.engLog

/-- For each of the seven causes: raise sets the STATUS bit R800 gives it and changes no other bit of STATUS;
ERR_CAUSE and ERR_INFO take the cause and the information if ERR_CAUSE was 0 and keep their values otherwise; no other
state changes. The codes are those of R800. (R810) -/
def Obligations.RaiseRecordsTheFirstError : Prop :=
    ∀ (b : Block) (info : Word) (e : Cause) (bit code : Nat),
    (e, bit, code) ∈ [(Cause.cmdIllegal, 4, 1), (.cmdOwnership, 4, 2), (.cmdBusy, 4, 3), (.cfgLocked, 5, 4), (.busError, 6, 5),
      (.tickOverrun, 3, 6), (.pwmSaturated, 7, 7)] →
    e.code.toNat = code ∧
    (b.raise e info).statusWord = b.statusWord ||| (1#32 <<< bit) ∧
    (b.errCause = .noError → (b.raise e info).errCause = e ∧ (b.raise e info).errInfo = info) ∧
    (b.errCause ≠ .noError → (b.raise e info).errCause = b.errCause ∧ (b.raise e info).errInfo = b.errInfo) ∧
    { b.raise e info with sticky := b.sticky, errCause := b.errCause, errInfo := b.errInfo } = b

/-- If ERR_CAUSE is not 0, no step of any agent changes ERR_CAUSE or ERR_INFO, but a full-strobe write of ERR_CAUSE
and reset. (R104, R105, R810, R813) -/
def Obligations.CapturedErrorOutlivesEveryStep : Prop :=
    ∀ (s t : State), s.blk.errCause ≠ .noError → step s = .next t →
    (∀ wdata rest, s.env.agenda ≠ .host (.write 0x00C#12 fullStrobe wdata) :: rest) →
    (∀ n rest, s.env.agenda ≠ .reset n :: rest) →
    t.blk.errCause = s.blk.errCause ∧ t.blk.errInfo = s.blk.errInfo

/-- The interrupt output is the OR over bits 2 to 7 of STATUS AND IRQ_EN, as the host reads the two registers, and it
is 0 after reset. (R820) -/
def Obligations.IrqIsAnEnabledStickyBit : Prop :=
    (∀ b : Block, b.irq = true ↔
      ∃ k : Nat, 2 ≤ k ∧ k ≤ 7 ∧ b.statusWord.getLsbD k = true ∧ b.irqEn.toWord.getLsbD k = true) ∧
    Block.reset.irq = false

/-- In SEQ's step in any phase but PWMWR, whatever the reply, ERR_CAUSE and ERR_INFO stay, and no sticky bit changes
but TICK_DONE, which only COMMIT sets. (R521, R825) -/
def Obligations.EngineDataRaisesNothing : Prop :=
    ∀ (s t : State) (reply : Word) (rest : List Event), s.env.agenda = .seq reply :: rest → s.blk.phase ≠ .pwmwr →
    step s = .next t →
    t.blk.errCause = s.blk.errCause ∧ t.blk.errInfo = s.blk.errInfo ∧
    t.blk.sticky = { s.blk.sticky with tickDone := s.blk.sticky.tickDone || decide (s.blk.phase = .commit) }

/-- From any state of the invariant (TIMER 0 while stopped and below PERIOD; ERR_INFO 0 while no error is captured; a
setpoint pending in SETTGT; no request word held but in SETTGT; L_PWM the clamped output after PWMWR; GETRAW only with
DUTY_SRC = 0; the duty sample the value sent when DUTY_SRC = 1; LAST_PWM at most 16 bits), whatever step comes next,
the state it answers satisfies the invariant. (R104, R105, R109, R117, R510, R511, R515, R516, R517, R331, assumption
19 (DEDUCED)) -/
def Obligations.EveryStepKeepsTheInvariant : Prop :=
    ∀ s t : State, s.Inv → step s = .next t → t.Inv

/-- The state right after reset satisfies the invariant that every step keeps. (R140) -/
def Obligations.ResetSatisfiesTheInvariant : Prop :=
    State.reset.Inv

/-- If a step changes either window, it was SEQ's COMMIT, or reset, or a full-strobe write of CMD with a PUSH or CLEAR
word made while TICK_EN = 0 and BUSY = 0. (R123) -/
def Obligations.WindowsAreWrittenOnlyByTheirOwners : Prop :=
    ∀ (s t : State), step s = .next t → (t.blk.vw ≠ s.blk.vw ∨ t.blk.dw ≠ s.blk.dw) →
    (∃ reply rest, s.env.agenda = .seq reply :: rest ∧ s.blk.phase = .commit) ∨
    (∃ n rest, s.env.agenda = .reset n :: rest) ∨
    (∃ c rest, s.env.agenda = .host (.write 0x034#12 fullStrobe c) :: rest ∧
      c ∈ [0x00000001#32, 0x00000011#32, 0x00000005#32, 0x00000015#32] ∧ s.blk.tickEn = false ∧ s.blk.phase = .idle)

/-- If a step takes the block from IDLE to a tick, it was a timer event, that is TIMER's step with TICK_EN = 1, in a
run that counts time the clock edge at TIMER = u32(PERIOD − 1); or a full-strobe write of FORCE_TICK to CMD with
TICK_EN = 0; and the tick begins at SETTGT or REFRESH. That a run either counts time or does not is the model's choice
(assumption 4). (R505, R501, R504, R607, assumption 4 (DESIGN CHOICE)) -/
def Obligations.TicksStartInTwoWaysOnly : Prop :=
    ∀ (s t : State), s.blk.phase = .idle → step s = .next t → t.blk.phase ≠ .idle →
    (t.blk.phase = .settgt ∨ t.blk.phase = .refresh) ∧
    ((∃ rest, s.env.agenda = .timer :: rest ∧ s.blk.tickEn = true ∧
        (s.env.timed = true → s.blk.timer = s.blk.period - 1#32)) ∨
      (∃ rest, s.env.agenda = .host (.write 0x034#12 fullStrobe 0x00000006#32) :: rest ∧ s.blk.tickEn = false))

/-- If a step changes SETPOINT it was a full-strobe write of SETPOINT, or reset; if it changes DATA, a full-strobe
write of DATA, or reset; if it takes SP_PENDING from 1 to 0, it was SEQ's SETTGT. (R112, R132, R213, R729, R731) -/
def Obligations.SetpointHasOneWriter : Prop :=
    ∀ (s t : State), step s = .next t → (∀ n rest, s.env.agenda ≠ .reset n :: rest) →
    (t.blk.setpoint ≠ s.blk.setpoint →
      ∃ w rest, s.env.agenda = .host (.write 0x02C#12 fullStrobe w) :: rest ∧ t.blk.setpoint = w) ∧
    (t.blk.data ≠ s.blk.data →
      ∃ w rest, s.env.agenda = .host (.write 0x030#12 fullStrobe w) :: rest ∧ t.blk.data = w) ∧
    (s.blk.spPending = true → t.blk.spPending = false →
      ∃ reply rest, s.env.agenda = .seq reply :: rest ∧ s.blk.phase = .settgt)

/-- Any step either sends nothing to PWM, or is SEQ's step in PWMWR and sends one word whose channel is PWM_CH and
whose value lies in [0, PWM_MAX]; between ticks nothing is sent. (R107, R508, R522) -/
def Obligations.PwmValuesStayInRange : Prop :=
    ∀ (s t : State), step s = .next t →
    t.env.pwmLog = s.env.pwmLog ∨
    ∃ (reply : Word) (rest : List Event) (val : BitVec 16), s.env.agenda = .seq reply :: rest ∧ s.blk.phase = .pwmwr ∧
      t.env.pwmLog = (s.blk.cfg.pwmCh ++ val) :: s.env.pwmLog ∧ val.toNat ≤ s.blk.cfg.pwmMax.toNat

/-- While TICK_EN = 1 or a tick is in progress, no step but reset changes CFG or PERIOD, so the period and the PWM
set-up are constant over every tick. (R501, R712, R714, R716) -/
def Obligations.ConfigurationIsFixedWhileLocked : Prop :=
    ∀ (s t : State), step s = .next t → (s.blk.tickEn = true ∨ s.blk.phase ≠ .idle) →
    (∀ n rest, s.env.agenda ≠ .reset n :: rest) → t.blk.cfg = s.blk.cfg ∧ t.blk.period = s.blk.period

/-- Any step but reset leaves TICK_COUNT as it is, or is SEQ's COMMIT and adds one to it. (R110, R518) -/
def Obligations.TickCountCountsCommits : Prop :=
    ∀ (s t : State), step s = .next t → (∀ n rest, s.env.agenda ≠ .reset n :: rest) →
    t.blk.tickCount = s.blk.tickCount + (if s.blk.phase = .commit ∧ (s.env.agenda.head?.map Event.isSeq) = some true then 1#32 else 0#32)

/-- From every state, a reset of at least P_RST_CYCLES cycles is one step that leaves phase IDLE, STATUS 0x00000002,
the registers, windows and latches at R140's values, irq 0 and neither port requesting. That this is one step is
R900's form for a step model; that what the model keeps beside the block is unchanged but for the event is the model's
choice (assumption 3), and so is that no request word is held apart from SETPOINT (assumption 19). (R140, R900,
assumption 3 (DESIGN CHOICE), assumption 19 (DEDUCED)) -/
def Obligations.ResetForcesTheResetValues : Prop :=
    ∀ (s : State) (n : Nat) (rest : List Event), s.env.agenda = .reset n :: rest → Config.pRstCycles ≤ n →
    ∃ b : Block, step s = .next { blk := b, env := { s.env with agenda := rest } } ∧
      b = State.reset.blk ∧ b.phase = .idle ∧ b.statusWord = 0x00000002#32 ∧ b.ctrlWord = 0#32 ∧ b.errCauseWord = 0#32 ∧
      b.errInfo = 0#32 ∧ b.irqEn.toWord = 0#32 ∧ b.cfg.toWord = 0xFFFF0000#32 ∧ b.period = Config.pPeriodRst ∧
      b.timer = 0#32 ∧ b.tickCount = 0#32 ∧ b.missed = 0#32 ∧ b.setpoint = 0#32 ∧ b.data = 0#32 ∧ b.result = 0#32 ∧
      b.lastOut = 0#32 ∧ b.lastPwm = 0#32 ∧ b.snapVmean = 0#32 ∧ b.snapVsd = 0#32 ∧ b.snapDmean = 0#32 ∧ b.snapDsd = 0#32 ∧
      b.snapTick = 0#32 ∧ b.vw.slots = [0#32, 0#32, 0#32, 0#32, 0#32] ∧ b.dw.slots = [0#32, 0#32, 0#32, 0#32, 0#32] ∧
      b.spPending = true ∧ b.lOut = 0#32 ∧ b.lPwm = 0#16 ∧ b.lVel = 0#32 ∧ b.lDuty = 0#32 ∧ b.heldTarget = none ∧ b.irq = false ∧
      b.engineRequest = none ∧ b.pwmRequest = none ∧ b.regAt 0x000#12 = some 0x53570007#32

/-- From every state whose next event is not a reset shorter than P_RST_CYCLES, step answers a next state with that
event taken off; and exec answers a next state for every instruction in every state: no access, command or request
stops the machine. A shorter reset pulse ends in the refusal resetPulseTooShort. That an empty agenda, a SEQ event in
IDLE and a TIMER event with TICK_EN = 0 answer a next state (assumption 12), and that an unissued port request does
(assumption 5), are the model's choices. (R802, R900, 93_implementation_defined.md I14, assumption 12 (DESIGN CHOICE),
assumption 5 (DESIGN CHOICE), assumption 10 (DESIGN CHOICE)) -/
def Obligations.OnlyAShortResetStops : Prop :=
    (∀ s : State, (∀ ev rest, s.env.agenda = ev :: rest → ev.resetLongEnough) →
      ∃ t : State, step s = .next t ∧ t.env.agenda = s.env.agenda.tail) ∧
    (∀ (i : Instr) (s : State), ∃ t : State, exec i s = .next t ∧ t.env.agenda = s.env.agenda) ∧
    ∀ (s : State) (n : Nat) (rest : List Event), s.env.agenda = .reset n :: rest → n < Config.pRstCycles →
      step s = .refused .resetPulseTooShort

/-- For every exact result n / d in units of 2^-149: below the overflow threshold (2^25 − 1) · 2^252 units the rounded
magnitude is finite and no finite binary32 magnitude is nearer to n / d, and where another is as near, the one chosen
is even; from the threshold on it is infinity. The threshold is the IEEE 754 standard's, which the spec does not write
out (assumption 17). (R8, R18, assumption 17 (PRESUMED)) -/
def Obligations.RoundingIsToNearestEven : Prop :=
    ∀ n d : Nat, 0 < d →
    (n < (2 ^ 25 - 1) * 2 ^ 252 * d →
      F32.roundMag n d < 0x7F800000 ∧
      ∀ m : Nat, m < 0x7F800000 →
        |(n : Int) - magUnits (F32.roundMag n d) * d| ≤ |(n : Int) - magUnits m * d| ∧
        (|(n : Int) - magUnits (F32.roundMag n d) * d| = |(n : Int) - magUnits m * d| → m ≠ F32.roundMag n d →
          F32.roundMag n d % 2 = 0)) ∧
    ((2 ^ 25 - 1) * 2 ^ 252 * d ≤ n → F32.roundMag n d = 0x7F800000)

/-- For every positive finite a and every finite binary32 magnitude m, the result of f32_sqrt is finite, has sign 0,
and is at least as near to the real square root of a as m is; distances are in units of 2^-149, where the root of u
units is the real root of u · 2^149 units. (R8, R18) -/
def Obligations.SquareRootIsNearest : Prop :=
    ∀ a : Word, F32.isFinite a = true → F32.signBit a = false → F32.units a ≠ 0 →
    F32.isFinite (F32.sqrt a) = true ∧ F32.signBit (F32.sqrt a) = false ∧
    ∀ m : Nat, m < 0x7F800000 →
      |Real.sqrt ((F32.units a : ℝ) * 2 ^ 149) - (F32.units (F32.sqrt a) : ℝ)| ≤
        |Real.sqrt ((F32.units a : ℝ) * 2 ^ 149) - (magUnits m : ℝ)|

/-- For finite a and b, f32_add, f32_sub, f32_mul and (b not zero) f32_div give the exact sum, difference, product or
quotient rounded: below the overflow threshold a finite number to which no finite number is nearer, with an even
significand where another is as near; from the threshold on the infinity of the sign. The signs of zero results, of
products and quotients, the quotients by zero, and f32_sub as f32_add with b's sign flipped, are IEEE 754's, which the
spec does not write out (assumption 17). (R8, R18, assumption 17 (PRESUMED)) -/
def Obligations.ArithmeticRoundsToNearestEven : Prop :=
    (∀ a b : Word, F32.isFinite a = true → F32.isFinite b = true →
      F32.nearestEven (F32.value a + F32.value b) 1 (F32.add a b) ∧
      F32.nearestEven (F32.value a - F32.value b) 1 (F32.sub a b) ∧
      F32.nearestEven (F32.value a * F32.value b) (2 ^ 149) (F32.mul a b) ∧
      (F32.value b ≠ 0 → F32.nearestEven ((F32.value b).sign * F32.value a * 2 ^ 149) (F32.units b) (F32.div a b)) ∧
      (F32.value a + F32.value b = 0 →
        F32.add a b = if F32.signBit a && F32.signBit b then 0x80000000#32 else 0x00000000#32) ∧
      (F32.value a - F32.value b = 0 →
        F32.sub a b = if F32.signBit a && !F32.signBit b then 0x80000000#32 else 0x00000000#32) ∧
      F32.signBit (F32.mul a b) = (F32.signBit a ^^ F32.signBit b) ∧
      (F32.value b ≠ 0 → F32.signBit (F32.div a b) = (F32.signBit a ^^ F32.signBit b)) ∧
      (F32.value b = 0 → F32.value a ≠ 0 →
        F32.div a b = if F32.signBit a ^^ F32.signBit b then 0xFF800000#32 else 0x7F800000#32) ∧
      (F32.value b = 0 → F32.value a = 0 → F32.div a b = 0x7FC00000#32)) ∧
    ∀ a b : Word, F32.sub a b = F32.add a (b ^^^ 0x80000000#32)

/-- If every slot is finite with magnitude at most 2^62, then the standard deviation is a finite binary32 number with
sign 0; in particular it is never NaN. (R422) -/
def Obligations.StddevOfBoundedWindowsIsFinite : Prop :=
    ∀ S : Window, F32.atMost62 S.s0 → F32.atMost62 S.s1 → F32.atMost62 S.s2 → F32.atMost62 S.s3 → F32.atMost62 S.s4 →
    F32.isFinite S.stddev = true ∧ F32.signBit S.stddev = false ∧ F32.isNaN S.stddev = false

/-- A NaN slot, whatever its payload, makes mean and stddev 0x7FC00000, and a mean or stddev that is a NaN is always
0x7FC00000. A +∞ and a −∞ slot together make the mean 0x7FC00000; slots that are one infinity, or finite with
magnitude at most 2^125 (so that no partial sum overflows, assumption 20), make the mean that infinity; any infinite
slot makes stddev 0x7FC00000. An infinite operand of f32_add, f32_mul, f32_div and f32_sqrt gives the infinity, zero
or NaN that IEEE 754 gives, which the spec does not write out (assumption 17). (R411, R422, R424, R18, assumption 17
(PRESUMED), assumption 20 (DEDUCED)) -/
def Obligations.NonFiniteSlotsDecideTheStatistics : Prop :=
    (∀ S : Window,
      ((F32.isNaN S.s0 ∨ F32.isNaN S.s1 ∨ F32.isNaN S.s2 ∨ F32.isNaN S.s3 ∨ F32.isNaN S.s4) →
        S.mean = 0x7FC00000#32 ∧ S.stddev = 0x7FC00000#32) ∧
      (F32.isNaN S.mean = true → S.mean = 0x7FC00000#32) ∧ (F32.isNaN S.stddev = true → S.stddev = 0x7FC00000#32) ∧
      (0x7F800000#32 ∈ S.slots → 0xFF800000#32 ∈ S.slots → S.mean = 0x7FC00000#32) ∧
      (∀ inf ∈ [0x7F800000#32, 0xFF800000#32], inf ∈ S.slots →
        (∀ x ∈ S.slots, x = inf ∨ (F32.isFinite x = true ∧ F32.units x ≤ 2 ^ 125 * 2 ^ 149)) → S.mean = inf) ∧
      (0x7F800000#32 ∈ S.slots ∨ 0xFF800000#32 ∈ S.slots → S.stddev = 0x7FC00000#32)) ∧
    (∀ (n : Bool) (x : Word), F32.isFinite x = true →
      let inf (neg : Bool) : Word := if neg then 0xFF800000#32 else 0x7F800000#32
      F32.add (inf n) x = inf n ∧ F32.add x (inf n) = inf n ∧ F32.add (inf n) (inf n) = inf n ∧
      F32.add (inf n) (inf !n) = 0x7FC00000#32 ∧
      (F32.units x ≠ 0 → F32.mul (inf n) x = inf (n ^^ F32.signBit x) ∧ F32.mul x (inf n) = inf (n ^^ F32.signBit x)) ∧
      (F32.units x = 0 → F32.mul (inf n) x = 0x7FC00000#32 ∧ F32.mul x (inf n) = 0x7FC00000#32) ∧
      F32.mul (inf n) (inf n) = 0x7F800000#32 ∧ F32.mul (inf n) (inf !n) = 0xFF800000#32 ∧
      F32.div (inf n) x = inf (n ^^ F32.signBit x) ∧
      F32.div x (inf n) = (if n ^^ F32.signBit x then 0x80000000#32 else 0x00000000#32) ∧
      F32.div (inf n) (inf n) = 0x7FC00000#32 ∧ F32.div (inf n) (inf !n) = 0x7FC00000#32) ∧
    F32.sqrt 0x7F800000#32 = 0x7F800000#32 ∧ F32.sqrt 0xFF800000#32 = 0x7FC00000#32

/-- For every window: if the variance is ordered-less-than +0.0 the standard deviation is +0.0, and otherwise it is
the square root of the variance itself; a NaN variance is not less and gives the canonical NaN; the mean of squares,
the square of the mean and the variance are never −0.0; and the sign of the standard deviation is 0. f32_lt is the
order of the values on finite numbers (so −0 is not less than +0), false where an operand is NaN, and by sign on
infinities, which the spec does not write out (assumption 17). (R421, R18, assumption 17 (PRESUMED)) -/
def Obligations.ClampTakesNegativeRadicandsOnly : Prop :=
    (∀ S : Window,
    (F32.lt S.variance F32.zero = true → S.stddev = 0x00000000#32) ∧
    (F32.lt S.variance F32.zero = false → S.stddev = F32.sqrt S.variance) ∧
    (F32.isNaN S.variance = true → F32.lt S.variance F32.zero = false ∧ S.stddev = 0x7FC00000#32) ∧
    F32.div S.sumSquares F32.five ≠ 0x80000000#32 ∧ F32.mul S.mean S.mean ≠ 0x80000000#32 ∧
    S.variance ≠ 0x80000000#32 ∧ F32.signBit S.stddev = false) ∧
    (∀ a b : Word,
      (F32.isNaN a = true ∨ F32.isNaN b = true → F32.lt a b = false) ∧
      (F32.isFinite a = true → F32.isFinite b = true → (F32.lt a b = true ↔ F32.value a < F32.value b)) ∧
      (F32.isFinite a = true → F32.lt 0xFF800000#32 a = true ∧ F32.lt a 0xFF800000#32 = false ∧
        F32.lt a 0x7F800000#32 = true ∧ F32.lt 0x7F800000#32 a = false)) ∧
    F32.lt 0xFF800000#32 0x7F800000#32 = true ∧ F32.lt 0x7F800000#32 0xFF800000#32 = false ∧
    F32.lt 0x7F800000#32 0x7F800000#32 = false ∧ F32.lt 0xFF800000#32 0xFF800000#32 = false

/-- From any stopped state, ten host writes, DATA then CMD = PUSH five times over, leave the selected window holding
the five values in order, oldest first, with no error recorded and nothing but DATA, the window and the response
changed. (R402, R601, R733) -/
def Obligations.PushesReachTheWindowThroughCmd : Prop :=
    ∀ (s : State) (w : Win) (v1 v2 v3 v4 v5 : Word) (rest : List Event),
    let put (v : Word) (tail : List Event) : List Event :=
      .host (.write 0x030#12 fullStrobe v) :: .host (.write 0x034#12 fullStrobe (if w = .vw then 0x00000001#32 else 0x00000011#32)) :: tail
    s.blk.tickEn = false → s.blk.phase = .idle →
    s.env.agenda = put v1 (put v2 (put v3 (put v4 (put v5 rest)))) →
    ∃ t : State, Sys2Proof.core.run 10 s = .next t ∧ t.env.agenda = rest ∧
      (t.blk.window w).slots = [v1, v2, v3, v4, v5] ∧
      t.blk = { s.blk.setWindow w (t.blk.window w) with data := v5 }

/-- While the block asserts a port request, no host access, command, timer event or clock edge changes the request
word or takes it away, a write of SETPOINT in SETTGT included (assumption 19). (R331, R507, R508, assumption 7
(DEDUCED), assumption 19 (DEDUCED)) -/
def Obligations.RequestWordsAreHeldUntilAcknowledged : Prop :=
    ∀ (s t : State) (ev : Event) (rest : List Event) (w : PortWord), s.env.agenda = ev :: rest →
    ev.isSeq = false → ev.isReset = false → s.blk.portRequest = some w → step s = .next t → t.blk.portRequest = some w

/-- Let the host write SETPOINT during a tick, in any phase. Whatever else is interleaved before that tick is over,
reset excepted, SP_PENDING stays 1, any SET_TARGET the tick still sends carries the value standing before the write,
and SETPOINT keeps the value written unless the host writes it again. And while no tick is in progress and SP_PENDING
is 1, every step keeps SP_PENDING, and a step that starts a tick starts it in SETTGT, with a request that carries
SETPOINT. (Where R511 reads SETPOINT at its step, R524 and ruling C7 decide: assumption 19.) (R524, R511, R729, R923,
90_conflicts.md C7, assumption 19 (DEDUCED)) -/
def Obligations.SetpointWriteWaitsForTheNextTick : Prop :=
    (∀ (s t : State) (v : Word) (rest : List Event) (k : Nat), s.Inv → s.blk.phase ≠ .idle →
      s.env.agenda = .host (.write 0x02C#12 fullStrobe v) :: rest → (∀ ev ∈ rest, ev.isReset = false) →
      Sys2Proof.core.run (k + 1) s = .next t →
      (∀ (j : Nat) (u : State), j ≤ k → Sys2Proof.core.run j s = .next u → u.blk.phase ≠ .idle) →
      t.blk.spPending = true ∧
      ((∀ w : Word, Event.host (.write 0x02C#12 fullStrobe w) ∉ rest) → t.blk.setpoint = v) ∧
      ∃ sent : List (BitVec 35), t.env.engLog = sent ++ s.env.engLog ∧
        ∀ w ∈ sent, w.extractLsb' 32 3 = 2#3 →
          s.blk.phase = .settgt ∧ w = 2#3 ++ s.blk.heldTarget.getD s.blk.setpoint) ∧
    (∀ (s t : State), s.Inv → s.blk.phase = .idle → s.blk.spPending = true → (∀ n rest, s.env.agenda ≠ .reset n :: rest) →
      step s = .next t → t.blk.spPending = true ∧
        (t.blk.phase ≠ .idle → t.blk.phase = .settgt ∧ t.blk.engineRequest = some (2#3 ++ t.blk.setpoint)))
end

