-- ==== Sys2Proof/Laws/Words.lean ====
section
/-! SUPPORT. The fields of the words the encoder builds, and the words rebuilt from their fields: all a proof about encodings
needs to know of bit positions. -/

namespace Sys2Proof

/-- A word is its high field beside its low field. -/
theorem bitvec_split {m n : Nat} (x : BitVec (m + n)) : x = x.extractLsb' n m ++ x.extractLsb' 0 n := by
  apply BitVec.eq_of_getLsbD_eq
  intro k hk
  simp only [BitVec.getLsbD_append, BitVec.getLsbD_extractLsb']
  split
  · simp [*]
  · simp [show n + (k - n) = k by omega, show k - n < m by omega]

/-! ## Engine and PWM requests -/

@[simp] theorem engWord_eop (a : BitVec 3) (d : Word) : (engWord a d).extractLsb' 32 3 = a :=
  BitVec.extractLsb'_append_eq_left

@[simp] theorem engWord_data (a : BitVec 3) (d : Word) : (engWord a d).extractLsb' 0 32 = d :=
  BitVec.extractLsb'_append_eq_right

@[simp] theorem pwmWord_ch (ch : BitVec 8) (v : BitVec 16) : (pwmWord ch v).extractLsb' 16 8 = ch :=
  BitVec.extractLsb'_append_eq_left

@[simp] theorem pwmWord_val (ch : BitVec 8) (v : BitVec 16) : (pwmWord ch v).extractLsb' 0 16 = v :=
  BitVec.extractLsb'_append_eq_right

theorem engWord_of_fields (x : BitVec 35) : engWord (x.extractLsb' 32 3) (x.extractLsb' 0 32) = x :=
  (bitvec_split (m := 3) (n := 32) x).symm

theorem pwmWord_of_fields (x : BitVec 24) : pwmWord (x.extractLsb' 16 8) (x.extractLsb' 0 16) = x :=
  (bitvec_split (m := 8) (n := 16) x).symm

theorem engWord_inj {a a' : BitVec 3} {d d' : Word} (h : engWord a d = engWord a' d') : a = a' ∧ d = d' :=
  ⟨by simpa using congrArg (·.extractLsb' 32 3) h, by simpa using congrArg (·.extractLsb' 0 32) h⟩

theorem pwmWord_inj {c c' : BitVec 8} {v v' : BitVec 16} (h : pwmWord c v = pwmWord c' v') : c = c' ∧ v = v' :=
  ⟨by simpa using congrArg (·.extractLsb' 16 8) h, by simpa using congrArg (·.extractLsb' 0 16) h⟩

/-! ## Command words -/

@[simp] theorem cmdWord_op (w : BitVec 1) (op : BitVec 4) : (cmdWord w op).extractLsb' 0 4 = op :=
  BitVec.extractLsb'_append_eq_right

@[simp] theorem cmdWord_w (w : BitVec 1) (op : BitVec 4) : (cmdWord w op).extractLsb' 4 1 = w := by
  revert w op; decide

@[simp] theorem cmdWord_z (w : BitVec 1) (op : BitVec 4) : (cmdWord w op).extractLsb' 5 27 = 0#27 := by
  revert w op; decide

theorem cmdWord_of_fields (c : Word) (h : c.extractLsb' 5 27 = 0#27) :
    cmdWord (c.extractLsb' 4 1) (c.extractLsb' 0 4) = c := by
  apply BitVec.eq_of_getLsbD_eq
  intro k hk
  unfold cmdWord
  rw [← h]
  simp only [BitVec.getLsbD_append, BitVec.getLsbD_extractLsb']
  split
  · simp [*]
  · split
    · simp [show k = 4 by omega]
    · simp [show 5 + (k - 4 - 1) = k by omega, show k - 4 - 1 < 27 by omega]

@[simp] theorem win_ofBit_bit (w : Win) : Win.ofBit w.bit = w := by cases w <;> rfl

@[simp] theorem win_bit_ofBit (w : BitVec 1) : (Win.ofBit w).bit = w := by revert w; decide

end Sys2Proof
end

