-- ==== Sys2Proof/Laws/Effects.lean ====
section
/-! SUPPORT. What a step can do, said once: the effects of a host access, of SEQ's step and of TIMER's step on the block, and
the inversion lemma of `step` over them. Later proofs split on these effects, not on the 78 instructions. -/

namespace Sys2Proof.Machine

/-- What a host access can do to the block: one case per kind of effect, with the access that has it and the condition under
which it has it. -/
inductive HostEffect : Access → Block → Block → Prop where
  /-- Reads, NOP: nothing. -/
  | same (a : Access) (b : Block) : HostEffect a b b
  /-- A bus error, a rejected command, a locked register: an error recorded. -/
  | raised (a : Access) (b : Block) (e : Cause) (info : Word) (he : e ≠ .noError) : HostEffect a b (b.raise e info)
  | ctrl (b : Block) (w : Word) : HostEffect (.write 0x004#12 fullStrobe w) b
      { b with tickEn := w.getLsbD 0, timer := if b.tickEn = w.getLsbD 0 then b.timer else 0#32 }
  | status (b : Block) (w : Word) : HostEffect (.write 0x008#12 fullStrobe w) b
      { b with sticky := b.sticky.clear (EventBits.ofWord w) }
  | errCause (b : Block) (w : Word) : HostEffect (.write 0x00C#12 fullStrobe w) b b.clearError
  | irqEn (b : Block) (w : Word) : HostEffect (.write 0x014#12 fullStrobe w) b { b with irqEn := EventBits.ofWord w }
  | cfg (b : Block) (w : Word) (h : b.locked = false) : HostEffect (.write 0x018#12 fullStrobe w) b
      { b with cfg := Cfg.ofWord w }
  | period (b : Block) (w : Word) (h : b.locked = false) : HostEffect (.write 0x01C#12 fullStrobe w) b
      { b with period := w }
  | missed (b : Block) (w : Word) : HostEffect (.write 0x028#12 fullStrobe w) b { b with missed := 0#32 }
  | setpoint (b : Block) (w : Word) : HostEffect (.write 0x02C#12 fullStrobe w) b (b.setpointWritten w)
  | data (b : Block) (w : Word) : HostEffect (.write 0x030#12 fullStrobe w) b { b with data := w }
  | result (b : Block) (c v : Word) : HostEffect (.write 0x034#12 fullStrobe c) b { b with result := v }
  | snap (b : Block) (c : Word) : HostEffect (.write 0x034#12 fullStrobe c) b
      { b with
        snapVmean := b.vw.mean, snapVsd := b.vw.stddev, snapDmean := b.dw.mean, snapDsd := b.dw.stddev
        snapTick := b.tickCount }
  | window (b : Block) (w : Win) (x : Window) (op : BitVec 4) (hop : op = 0x1#4 ∨ op = 0x5#4)
      (h : b.locked = false) : HostEffect (.write 0x034#12 fullStrobe (cmdWord w.bit op)) b (b.setWindow w x)
  | start (b : Block) (h : b.locked = false) :
      HostEffect (.write 0x034#12 fullStrobe (cmdWord 0#1 0x6#4)) b b.startTick

/-- The state beside the block that a host access keeps: all but the response and, for a read of a running TIMER in a run
without time, the count of draws. -/
def Env.sameButAnswer (e f : Env) : Prop :=
  f.agenda = e.agenda ∧ f.timed = e.timed ∧ f.erdata = e.erdata ∧ f.engLog = e.engLog ∧ f.pwmLog = e.pwmLog

/-- What SEQ's step can do to the block, by phase. -/
inductive SeqEffect (reply : Word) : Block → Block → Prop where
  | idle (b : Block) (h : b.phase = .idle) : SeqEffect reply b b
  | settgt (b : Block) (h : b.phase = .settgt) : SeqEffect reply b b.targetSet
  | refresh (b : Block) (h : b.phase = .refresh) : SeqEffect reply b b.refreshed
  | compute (b : Block) (h : b.phase = .compute) : SeqEffect reply b b.computed
  | getout (b : Block) (h : b.phase = .getout) : SeqEffect reply b (b.gotOut reply)
  | pwmwr (b : Block) (h : b.phase = .pwmwr) : SeqEffect reply b b.pwmSent
  | getvel (b : Block) (h : b.phase = .getvel) : SeqEffect reply b (b.gotVel reply)
  | getraw (b : Block) (h : b.phase = .getraw) : SeqEffect reply b (b.gotRaw reply)
  | commit (b : Block) (h : b.phase = .commit) : SeqEffect reply b b.commit

/-- What an action answers. -/
def Action.outcome : Action → Host.Outcome State Fault Refusal
  | .run i s => exec i s
  | .done o => o

theorem step_eq_outcome (s : State) : step s = (nextAction s).outcome := by
  unfold step Action.outcome
  split <;> simp_all

/-! ## HOST -/

theorem locked_eq_false {b : Block} : b.locked = false ↔ b.tickEn = false ∧ b.phase = .idle := by
  simp [Block.locked, Block.busy]

/-- A command that runs only while stopped either runs, or records its rejection. -/
theorem ifStopped_cases (b : Block) (c : Word) (f : Block → Block) :
    (b.locked = false ∧ b.ifStopped c f = f b) ∨
      ∃ e, e ≠ Cause.noError ∧ b.ifStopped c f = b.raise e c := by
  unfold Block.ifStopped
  cases ht : b.tickEn
  · cases hb : b.busy
    · exact .inl ⟨by simp [Block.locked, ht, hb], by simp⟩
    · exact .inr ⟨.cmdBusy, by decide, by simp⟩
  · exact .inr ⟨.cmdOwnership, by decide, by simp⟩

/-- A write of a locked register either writes, or records its rejection. -/
theorem writeLocked_cases (b : Block) (off : Offset) (f : Block → Block) :
    (b.locked = false ∧ b.writeLocked off f = f b) ∨
      b.writeLocked off f = b.raise .cfgLocked (accessInfo (.write off fullStrobe 0#32)) := by
  unfold Block.writeLocked
  cases h : b.locked
  · exact .inl ⟨rfl, by simp⟩
  · exact .inr (by simp)

/-- What `exec` of the command a word decodes to does. -/
theorem command_effect (c : Word) (i : Instr) (s : State) (h : decodeCmd c = .ok i) :
    ∃ b, exec i s = .next (s.answered b (.done none)) ∧ HostEffect (.write 0x034#12 fullStrobe c) s.blk b := by
  unfold decodeCmd at h
  split at h
  next hz =>
    rw [← cmdWord_of_fields c hz]
    generalize c.extractLsb' 4 1 = w at h
    generalize c.extractLsb' 0 4 = op at h
    unfold decodeCmdOp at h
    split at h
    · split at h
      · cases h; exact ⟨_, rfl, .same _ _⟩
      · cases h
    · cases h
      refine ⟨_, rfl, ?_⟩
      rcases ifStopped_cases s.blk (cmdWord (Win.ofBit w).bit 0x1#4)
        (fun b => b.setWindow (Win.ofBit w) ((b.window (Win.ofBit w)).push b.data)) with ⟨hl, he⟩ | ⟨e, hne, he⟩
      · simp only [he]; simpa using HostEffect.window s.blk (Win.ofBit w) _ 0x1#4 (.inl rfl) hl
      · simp only [he]; exact .raised _ _ _ _ hne
    · cases h; exact ⟨_, rfl, .result _ _ _⟩
    · cases h; exact ⟨_, rfl, .result _ _ _⟩
    · split at h
      · cases h; exact ⟨_, rfl, .snap _ _⟩
      · cases h
    · cases h
      refine ⟨_, rfl, ?_⟩
      rcases ifStopped_cases s.blk (cmdWord (Win.ofBit w).bit 0x5#4)
        (fun b => b.setWindow (Win.ofBit w) (b.window (Win.ofBit w)).clear) with ⟨hl, he⟩ | ⟨e, hne, he⟩
      · simp only [he]; simpa using HostEffect.window s.blk (Win.ofBit w) _ 0x5#4 (.inr rfl) hl
      · simp only [he]; exact .raised _ _ _ _ hne
    · split at h
      next hw =>
        cases h
        refine ⟨_, rfl, ?_⟩
        rcases ifStopped_cases s.blk (cmdWord 0#1 0x6#4) Block.startTick with ⟨hl, he⟩ | ⟨e, hne, he⟩
        · simp only [he, hw]; exact HostEffect.start s.blk hl
        · simp only [he]; exact .raised _ _ _ _ hne
      · cases h
    · cases h
  next => cases h

/-- The command words `execCmd` turns away are those the decoder does. -/
theorem execCmd_eq (c : Word) (s : State) :
    execCmd c s = match decodeCmd c with
      | .ok i => exec i s
      | .error _ => illegalCommand c s := by
  unfold execCmd decodeCmd
  by_cases hz : c.extractLsb' 5 27 = 0#27
  · simp only [hz, ne_eq, not_true, false_or, if_true]
    generalize c.extractLsb' 4 1 = w
    generalize c.extractLsb' 0 4 = op
    have key : ∀ (op : BitVec 4) (w : BitVec 1),
        (7 ≤ op.toNat ∨ ((op = 0x0#4 ∨ op = 0x4#4 ∨ op = 0x6#4) ∧ w = 1#1)) →
          decodeCmdOp op w = .error .cmdOp ∨ decodeCmdOp op w = .error .cmdW := by decide
    split
    next h => rcases key op w h with he | he <;> rw [he]
    next h =>
      rw [not_or, not_and_or, not_or, not_or] at h
      obtain ⟨h7, h⟩ := h
      have hw : ∀ w : BitVec 1, ¬ w = 1#1 → w = 0#1 := by decide
      unfold decodeCmdOp
      split <;> simp_all [exec]
  · simp [hz]

/-- A write of a writable register: full strobes act, any other mask is a bus error. -/
theorem writeReg_effect (off : Offset) (strb : Strobe) (wdata : Word) (f : Block → Block) (s : State)
    (h : strb = fullStrobe → HostEffect (.write off strb wdata) s.blk (f s.blk)) :
    ∃ t, writeReg off strb wdata f s = .next t ∧ HostEffect (.write off strb wdata) s.blk t.blk ∧
      s.env.sameButAnswer t.env := by
  unfold writeReg
  split
  next hs => exact ⟨_, rfl, h hs, rfl, rfl, rfl, rfl, rfl⟩
  next => exact ⟨_, rfl, .raised _ _ _ _ (by decide), rfl, rfl, rfl, rfl, rfl⟩

theorem busError_effect (a : Access) (s : State) :
    ∃ t, busError a s = .next t ∧ HostEffect a s.blk t.blk ∧ s.env.sameButAnswer t.env :=
  ⟨_, rfl, .raised _ _ _ _ (by decide), rfl, rfl, rfl, rfl, rfl⟩

theorem answerRead_effect (a : Access) (v : Word) (s : State) :
    ∃ t, answerRead v s = .next t ∧ HostEffect a s.blk t.blk ∧ s.env.sameButAnswer t.env :=
  ⟨_, rfl, .same _ _, rfl, rfl, rfl, rfl, rfl⟩

theorem rdTimer_effect (a : Access) (s : State) :
    ∃ t, execRdTimer s = .next t ∧ HostEffect a s.blk t.blk ∧ s.env.sameButAnswer t.env := by
  unfold execRdTimer
  split
  · exact ⟨_, rfl, .same _ _, rfl, rfl, rfl, rfl, rfl⟩
  · exact answerRead_effect a _ s

theorem writeLocked_effect (off : Offset) (wdata : Word) (f : Block → Block) (b : Block)
    (h : b.locked = false → HostEffect (.write off fullStrobe wdata) b (f b)) :
    HostEffect (.write off fullStrobe wdata) b (b.writeLocked off f) := by
  rcases writeLocked_cases b off f with ⟨hl, he⟩ | he <;> rw [he]
  · exact h hl
  · exact .raised _ _ _ _ (by decide)

/-- What `exec` of an instruction an aligned read decodes to does. -/
theorem read_effect (off : Offset) (i : Instr) (s : State) (a : Access) (h : decodeReadAt off = .ok i) :
    ∃ t, exec i s = .next t ∧ HostEffect a s.blk t.blk ∧ s.env.sameButAnswer t.env := by
  unfold decodeReadAt at h
  split at h <;> first | (cases h; first | exact answerRead_effect a _ s | exact rdTimer_effect a s) | cases h

/-- What `exec` of an instruction an aligned write decodes to does. -/
theorem write_effect (off : Offset) (strb : Strobe) (wdata : Word) (i : Instr) (s : State)
    (h : decodeWriteAt off strb wdata = .ok i) :
    ∃ t, exec i s = .next t ∧ HostEffect (.write off strb wdata) s.blk t.blk ∧ s.env.sameButAnswer t.env := by
  unfold decodeWriteAt at h
  split at h <;> cases h
  all_goals try exact busError_effect _ s
  · simp only [exec, execWrCtrl]; refine writeReg_effect _ strb wdata _ s ?_; rintro rfl; exact .ctrl _ _
  · simp only [exec, execWrStatus]; refine writeReg_effect _ strb wdata _ s ?_; rintro rfl; exact .status _ _
  · simp only [exec, execWrErrCause]; refine writeReg_effect _ strb wdata _ s ?_; rintro rfl; exact .errCause _ _
  · simp only [exec, execWrIrqEn]; refine writeReg_effect _ strb wdata _ s ?_; rintro rfl; exact .irqEn _ _
  · simp only [exec, execWrCfg]; refine writeReg_effect _ strb wdata _ s ?_; rintro rfl; exact writeLocked_effect _ _ _ _ (.cfg _ _)
  · simp only [exec, execWrPeriod]; refine writeReg_effect _ strb wdata _ s ?_; rintro rfl; exact writeLocked_effect _ _ _ _ (.period _ _)
  · simp only [exec, execWrMissed]; refine writeReg_effect _ strb wdata _ s ?_; rintro rfl; exact .missed _ _
  · simp only [exec, execWrSetpoint]; refine writeReg_effect _ strb wdata _ s ?_; rintro rfl; exact .setpoint _ _
  · simp only [exec, execWrData]; refine writeReg_effect _ strb wdata _ s ?_; rintro rfl; exact .data _ _
  · show ∃ t, execWrCmd strb wdata s = .next t ∧ _
    unfold execWrCmd
    split
    next hs =>
      subst hs
      rw [execCmd_eq]
      split
      next i h =>
        obtain ⟨b, he, hb⟩ := command_effect wdata i s h
        exact ⟨_, he, hb, rfl, rfl, rfl, rfl, rfl⟩
      next => exact ⟨_, rfl, .raised _ _ _ _ (by decide), rfl, rfl, rfl, rfl, rfl⟩
    next => exact busError_effect _ s

/-- HOST's step: it always answers a next state, whose block is one of the effects of the access. -/
theorem host_step (a : Access) (s : State) :
    ∃ t, (hostAction a s).outcome = .next t ∧ HostEffect a s.blk t.blk ∧ s.env.sameButAnswer t.env := by
  have plain : ∀ a : Access, ∃ t, (match decodeAccess a with
      | .ok i => Action.run i s | .error _ => .done (busError a s)).outcome = .next t ∧
        HostEffect a s.blk t.blk ∧ s.env.sameButAnswer t.env := by
    intro a
    split
    next i h =>
      cases a with
      | read off =>
        simp only [decodeAccess] at h
        by_cases hm : off.extractLsb' 0 2 = 0#2
        · rw [if_pos hm] at h; exact read_effect off i s _ h
        · rw [if_neg hm] at h; cases h
      | write off strb wdata =>
        simp only [decodeAccess] at h
        by_cases hm : off.extractLsb' 0 2 = 0#2
        · rw [if_pos hm] at h; exact write_effect off strb wdata i s h
        · rw [if_neg hm] at h; cases h
    next => exact busError_effect a s
  cases a with
  | read off => exact plain (.read off)
  | write off strb wdata =>
    unfold hostAction decodeHost
    by_cases hc : off = 0x034#12 ∧ strb = fullStrobe
    · simp only [hc, and_self, if_true]
      obtain ⟨rfl, rfl⟩ := hc
      cases hd : decodeCmd wdata with
      | ok i =>
        obtain ⟨b, he, hb⟩ := command_effect wdata i s hd
        exact ⟨_, he, hb, rfl, rfl, rfl, rfl, rfl⟩
      | error e => exact write_effect _ _ _ (.wrCmd fullStrobe wdata) s rfl
    · simp only [hc, if_false]; exact plain (.write off strb wdata)

/-! ## SEQ -/

/-- What the environment keeps in SEQ's step, and the requests it makes. -/
def Env.seqLogs (e f : Env) (b : Block) : Prop :=
  f.agenda = e.agenda ∧ f.timed = e.timed ∧ f.draws = e.draws ∧ f.resp = e.resp ∧
    f.engLog = b.engineRequest.toList ++ e.engLog ∧ f.pwmLog = b.pwmRequest.toList ++ e.pwmLog

/-- A phase's engine request is sent once, and the block takes the phase's effect. -/
theorem seq_engine (reply : Word) (s : State) (w : BitVec 35) (i : Instr) (f : Block → Word → Block)
    (hr : s.blk.engineRequest = some w) (hw : s.blk.pwmRequest = none) (hd : decodeEng w = .ok i)
    (he : ∀ s, exec i s = engineCall w f s) :
    ∃ t, (seqAction reply s).outcome = .next t ∧ t.blk = f s.blk reply ∧ s.env.seqLogs t.env s.blk := by
  refine ⟨{ blk := f s.blk reply, env := { s.env with erdata := reply, engLog := w :: s.env.engLog } }, ?_, rfl, ?_⟩
  · simp [seqAction, Block.portRequest, hr, decode, hd, Action.outcome, he, engineCall]
  · simp [Env.seqLogs, hr, hw]

/-- The request of SETTGT decodes to E_SET_TARGET of the value it carries. -/
theorem decodeEng_setTarget (d : Word) : decodeEng (engWord 2#3 d) = .ok (.eSetTarget d) := by
  simp only [decodeEng, engWord_eop, engWord_data]

/-- SEQ's step: it always answers a next state, whose block is the effect of its phase, and logs the request the phase
asserts. -/
theorem seq_step (reply : Word) (s : State) :
    ∃ t, (seqAction reply s).outcome = .next t ∧ SeqEffect reply s.blk t.blk ∧ s.env.seqLogs t.env s.blk := by
  have eng : ∀ (op : BitVec 3) (d : Word) (i : Instr) (f : Block → Word → Block),
      s.blk.engineRequest = some (engWord op d) → s.blk.pwmRequest = none → decodeEng (engWord op d) = .ok i →
      (∀ s, exec i s = engineCall (engWord op d) f s) → SeqEffect reply s.blk (f s.blk reply) →
      ∃ t, (seqAction reply s).outcome = .next t ∧ SeqEffect reply s.blk t.blk ∧ s.env.seqLogs t.env s.blk := by
    intro op d i f hr hw hd he hs
    obtain ⟨t, h1, h2, h3⟩ := seq_engine reply s _ i f hr hw hd he
    exact ⟨t, h1, h2 ▸ hs, h3⟩
  cases hp : s.blk.phase
  case idle =>
    exact ⟨s, by simp [seqAction, Block.portRequest, Block.engineRequest, Block.pwmRequest, hp, Action.outcome],
      .idle _ hp, by simp [Env.seqLogs, Block.engineRequest, Block.pwmRequest, hp]⟩
  case commit =>
    exact ⟨{ s with blk := s.blk.commit },
      by simp [seqAction, Block.portRequest, Block.engineRequest, Block.pwmRequest, hp, Action.outcome],
      .commit _ hp, by simp [Env.seqLogs, Block.engineRequest, Block.pwmRequest, hp]⟩
  case pwmwr =>
    refine ⟨{ blk := s.blk.pwmSent, env := { s.env with
      erdata := reply, pwmLog := pwmWord s.blk.cfg.pwmCh (saturate s.blk.lOut s.blk.cfg.pwmMax) :: s.env.pwmLog } },
      ?_, .pwmwr _ hp, ?_⟩
    · simp [seqAction, Block.portRequest, Block.engineRequest, Block.pwmRequest, hp, Action.outcome, decode, decodePwm,
        exec, execPwmWrite, pwmCall]
    · simp [Env.seqLogs, Block.engineRequest, Block.pwmRequest, hp]
  case settgt =>
    exact eng 2#3 s.blk.target _ (fun b _ => b.targetSet) (by simp [Block.engineRequest, hp]) (by simp [Block.pwmRequest, hp])
      (decodeEng_setTarget _) (fun _ => rfl) (.settgt _ hp)
  case refresh =>
    exact eng 0#3 0#32 (.eRefresh 0#32) (fun b _ => b.refreshed) (by simp [Block.engineRequest, hp]) (by simp [Block.pwmRequest, hp])
      (by decide) (fun _ => rfl) (.refresh _ hp)
  case compute =>
    exact eng 1#3 0#32 (.eCompute 0#32) (fun b _ => b.computed) (by simp [Block.engineRequest, hp]) (by simp [Block.pwmRequest, hp])
      (by decide) (fun _ => rfl) (.compute _ hp)
  case getout =>
    exact eng 4#3 0#32 (.eGetOut 0#32) (Block.gotOut) (by simp [Block.engineRequest, hp]) (by simp [Block.pwmRequest, hp])
      (by decide) (fun _ => rfl) (.getout _ hp)
  case getvel =>
    exact eng 3#3 0#32 (.eGetVel 0#32) (Block.gotVel) (by simp [Block.engineRequest, hp]) (by simp [Block.pwmRequest, hp])
      (by decide) (fun _ => rfl) (.getvel _ hp)
  case getraw =>
    exact eng 5#3 0#32 (.eGetRaw 0#32) (Block.gotRaw) (by simp [Block.engineRequest, hp]) (by simp [Block.pwmRequest, hp])
      (by decide) (fun _ => rfl) (.getraw _ hp)

/-! ## The step -/

/-- One step, by the agent whose turn it is. -/
theorem step_cases {s t : State} (h : step s = .next t) :
    (s.env.agenda = [] ∧ t = s) ∨
    (∃ a rest, s.env.agenda = .host a :: rest ∧ HostEffect a s.blk t.blk ∧ (s.popped rest).env.sameButAnswer t.env) ∨
    (∃ rest, s.env.agenda = .timer :: rest ∧ t = (s.popped rest).timerStep) ∨
    (∃ reply rest, s.env.agenda = .seq reply :: rest ∧ SeqEffect reply s.blk t.blk ∧
      (s.popped rest).env.seqLogs t.env s.blk) ∨
    (∃ n rest, s.env.agenda = .reset n :: rest ∧ Config.pRstCycles ≤ n ∧ t = { s.popped rest with blk := Block.reset }) := by
  rw [step_eq_outcome] at h
  unfold nextAction at h
  cases ha : s.env.agenda with
  | nil => simp only [ha, Action.outcome] at h; cases h; exact .inl ⟨rfl, rfl⟩
  | cons ev rest =>
    simp only [ha] at h
    cases ev with
    | host a =>
      obtain ⟨u, hu, he, hv⟩ := host_step a (s.popped rest)
      obtain rfl : u = t := by simpa [State.popped, hu] using hu.symm.trans h
      exact .inr (.inl ⟨a, rest, rfl, he, hv⟩)
    | timer => cases h; exact .inr (.inr (.inl ⟨rest, rfl, rfl⟩))
    | seq reply =>
      obtain ⟨u, hu, he, hv⟩ := seq_step reply (s.popped rest)
      obtain rfl : u = t := by simpa [State.popped, hu] using hu.symm.trans h
      exact .inr (.inr (.inr (.inl ⟨reply, rest, rfl, he, hv⟩)))
    | reset n =>
      simp only [Action.outcome, resetStep] at h
      split at h
      · cases h
      · next hn => cases h; exact .inr (.inr (.inr (.inr ⟨n, rest, rfl, by omega, rfl⟩)))

end Sys2Proof.Machine
end

