-- ==== Sys2Proof/Laws/F32.lean ====
section
/-! SUPPORT. The arithmetic of binary32, in lemmas about its parts: the fields of a pattern, the count of units a magnitude
stands for and its order, the quotient the rounding starts from, the integer square root, and the NaN and the sign of every
result. -/

namespace Sys2Proof.Machine

/-! ## Magnitudes and their units -/

/-- The units of a magnitude, by its exponent field and its fraction. -/
theorem magUnits_eq (m : Nat) (h : m < 2 ^ 31) :
    magUnits m = if m / 2 ^ 23 = 0 then m % 2 ^ 23 else (2 ^ 23 + m % 2 ^ 23) * 2 ^ (m / 2 ^ 23 - 1) := by
  have he : F32.expField (BitVec.ofNat 32 m) = m / 2 ^ 23 := by
    simp only [F32.expField, BitVec.extractLsb'_toNat, BitVec.toNat_ofNat, Nat.shiftRight_eq_div_pow]
    omega
  have hf : F32.fracField (BitVec.ofNat 32 m) = m % 2 ^ 23 := by
    simp only [F32.fracField, BitVec.extractLsb'_toNat, BitVec.toNat_ofNat, Nat.shiftRight_eq_div_pow]
    omega
  unfold magUnits F32.units
  rw [he, hf]

/-- The units of a significand `q` under the exponent that `k` gives; a significand rounded up to 2^24 included. -/
theorem magUnits_scaled (k q : Nat) (hq : q ≤ 2 ^ 24) (hk : k = 0 ∨ 2 ^ 23 ≤ q) (h : 2 ^ 23 * k + q < 2 ^ 31) :
    magUnits (2 ^ 23 * k + q) = q * 2 ^ k := by
  rw [magUnits_eq _ h]
  by_cases h24 : q = 2 ^ 24
  · have h1 : (2 ^ 23 * k + q) / 2 ^ 23 = k + 2 := by omega
    have h2 : (2 ^ 23 * k + q) % 2 ^ 23 = 0 := by omega
    rw [h1, h2, if_neg (by omega), h24, show k + 2 - 1 = k + 1 by omega, Nat.pow_succ]; ring
  · by_cases hs : q < 2 ^ 23
    · have hk0 : k = 0 := by omega
      subst hk0
      rw [if_pos (by omega)]; omega
    · have h1 : (2 ^ 23 * k + q) / 2 ^ 23 = k + 1 := by omega
      have h2 : 2 ^ 23 + (2 ^ 23 * k + q) % 2 ^ 23 = q := by omega
      rw [h1, h2, if_neg (by omega), Nat.add_sub_cancel]

/-- The next magnitude is larger. -/
theorem magUnits_step (m : Nat) (h : m + 1 < 2 ^ 31) : magUnits m < magUnits (m + 1) := by
  obtain ⟨k, q, hq1, hq2, hm⟩ : ∃ k q, (k = 0 ∨ 2 ^ 23 ≤ q) ∧ q < 2 ^ 24 ∧ m = 2 ^ 23 * k + q := by
    by_cases hs : m < 2 ^ 23
    · exact ⟨0, m, .inl rfl, by omega, by omega⟩
    · exact ⟨m / 2 ^ 23 - 1, 2 ^ 23 + m % 2 ^ 23, .inr (by omega), by omega, by omega⟩
  subst hm
  rw [magUnits_scaled k q (by omega) hq1 (by omega), show 2 ^ 23 * k + q + 1 = 2 ^ 23 * k + (q + 1) by omega,
    magUnits_scaled k (q + 1) (by omega) (by omega) (by omega)]
  exact Nat.mul_lt_mul_of_pos_right (Nat.lt_succ_self q) (Nat.two_pow_pos k)

/-- Magnitudes are ordered as their patterns are. -/
theorem magUnits_lt {m m' : Nat} (h : m < m') (h' : m' < 2 ^ 31) : magUnits m < magUnits m' := by
  induction m' with
  | zero => omega
  | succ j ih =>
    have := magUnits_step j h'
    rcases Nat.lt_or_ge m j with hj | hj
    · exact Nat.lt_trans (ih hj (by omega)) this
    · have : m = j := by omega
      subst this; exact this

/-- Only magnitudes below 2^24 units can be odd. -/
theorem magUnits_odd (m : Nat) (h : m < 2 ^ 31) (ho : magUnits m % 2 = 1) : magUnits m < 2 ^ 24 := by
  rw [magUnits_eq m h] at *
  by_cases h0 : m / 2 ^ 23 = 0
  · rw [if_pos h0]; omega
  · rw [if_neg h0] at *
    by_cases he : m / 2 ^ 23 - 1 = 0
    · rw [he]; omega
    · obtain ⟨j, hj⟩ : ∃ j, m / 2 ^ 23 - 1 = j + 1 := ⟨m / 2 ^ 23 - 1 - 1, by omega⟩
      rw [hj, Nat.pow_succ 2 j, ← Nat.mul_assoc] at ho; omega

/-- Finite magnitudes lie below 2^277 units. -/
theorem magUnits_bound (m : Nat) (h : m < 0x7F800000) : magUnits m < 2 ^ 277 := by
  have := magUnits_lt (m := m) (m' := 0x7F800000) h (by omega)
  have e : magUnits 0x7F800000 = 2 ^ 277 := by
    rw [magUnits_eq _ (by omega)]; decide +kernel
  omega

/-! ## Fields of a pattern -/

/-- The sign is bit 31. -/
theorem f32_signBit_eq (a : Word) : F32.signBit a = decide (2 ^ 31 ≤ a.toNat) := by
  unfold F32.signBit
  rw [← BitVec.testBit_toNat, Nat.testBit_eq_decide_div_mod_eq]
  have := a.isLt
  by_cases h : 2 ^ 31 ≤ a.toNat <;> simp <;> omega

/-- The exponent field of a pattern. -/
theorem f32_exp_eq (a : Word) : F32.expField a = a.toNat % 2 ^ 31 / 2 ^ 23 := by
  simp only [F32.expField, BitVec.extractLsb'_toNat, Nat.shiftRight_eq_div_pow]; have := a.isLt; omega

/-- The fraction field of a pattern. -/
theorem f32_frac_eq (a : Word) : F32.fracField a = a.toNat % 2 ^ 31 % 2 ^ 23 := by
  simp only [F32.fracField, BitVec.extractLsb'_toNat, Nat.shiftRight_eq_div_pow]; omega

/-- The units of a pattern are those of its magnitude. -/
theorem f32_units_eq (a : Word) : F32.units a = magUnits (a.toNat % 2 ^ 31) := by
  rw [magUnits_eq _ (Nat.mod_lt _ (by decide))]
  unfold F32.units; rw [f32_exp_eq, f32_frac_eq]

/-- Finite patterns are those whose magnitude lies below infinity. -/
theorem f32_finite_iff (a : Word) : F32.isFinite a = true ↔ a.toNat % 2 ^ 31 < 0x7F800000 := by
  unfold F32.isFinite; rw [f32_exp_eq]; have := a.isLt; simp; omega

/-- A pattern built from a sign and a magnitude, as a number. -/
theorem withSign_toNat (neg : Bool) (m : Nat) (h : m < 2 ^ 31) : (F32.withSign neg m).toNat = (if neg then 2 ^ 31 + m else m) := by
  unfold F32.withSign; rw [BitVec.toNat_ofNat]; cases neg <;> simp <;> omega

/-- Its sign. -/
theorem f32_sign_with (neg m) (h : m < 2 ^ 31) : F32.signBit (F32.withSign neg m) = neg := by
  rw [f32_signBit_eq, withSign_toNat neg m h]; cases neg <;> simp; omega

/-- Its magnitude. -/
theorem f32_mag_with (neg m) (h : m < 2 ^ 31) : (F32.withSign neg m).toNat % 2 ^ 31 = m := by
  rw [withSign_toNat neg m h]; cases neg <;> simp <;> omega

/-- A finite pattern is no NaN and no infinity. -/
theorem f32_fin_no {a : Word} (h : F32.isFinite a = true) : F32.isNaN a = false ∧ F32.isInf a = false := by
  unfold F32.isFinite F32.isNaN F32.isInf at *; simp_all

/-- The sign does not touch the magnitude. -/
theorem f32_abs_signed (n : Bool) (m : Nat) : |F32.signed n m| = m := by cases n <;> simp [F32.signed]

/-- A whole number from its sign and its magnitude. -/
theorem f32_signed_natAbs (z : Int) : F32.signed (decide (z < 0)) z.natAbs = z := by
  unfold F32.signed; by_cases h : z < 0
  · rw [if_pos (by simpa using h)]; omega
  · rw [if_neg (by simpa using h)]; omega

/-! ## The rounding's parts -/

/-- The scale leaves a quotient of 24 bits, or is 0. -/
theorem scale_spec (n d : Nat) :
    n / (d * 2 ^ F32.scale n d) < 2 ^ 24 ∧ (F32.scale n d = 0 ∨ 2 ^ 23 ≤ n / (d * 2 ^ F32.scale n d)) := by
  unfold F32.scale
  rw [← Nat.div_div_eq_div_mul]
  generalize n / d = x
  by_cases hx : x = 0
  · subst hx; simp
  have h1 : 2 ^ x.log2 ≤ x := Nat.log2_self_le hx
  have h2 : x < 2 ^ (x.log2 + 1) := Nat.lt_log2_self
  by_cases hl : x.log2 ≤ 23
  · have : x.log2 - 23 = 0 := by omega
    rw [this]
    refine ⟨?_, .inl rfl⟩
    have : x < 2 ^ 24 := Nat.lt_of_lt_of_le h2 (Nat.pow_le_pow_right (by omega) (by omega))
    simpa using this
  · refine ⟨?_, .inr ?_⟩
    · rw [Nat.div_lt_iff_lt_mul (Nat.two_pow_pos _), ← Nat.pow_add]
      exact Nat.lt_of_lt_of_le h2 (Nat.pow_le_pow_right (by omega) (by omega))
    · rw [Nat.le_div_iff_mul_le (Nat.two_pow_pos _), ← Nat.pow_add]
      exact Nat.le_trans (Nat.pow_le_pow_right (by omega) (by omega)) h1

/-- Rounding a quotient to the nearest whole number: down below the half and at an even tie, else up. -/
theorem roundDiv_cases (a b : Nat) :
    (F32.roundDiv a b = a / b ∧ (2 * (a % b) < b ∨ (2 * (a % b) = b ∧ a / b % 2 = 0))) ∨
    (F32.roundDiv a b = a / b + 1 ∧ (b < 2 * (a % b) ∨ (2 * (a % b) = b ∧ a / b % 2 = 1))) := by
  unfold F32.roundDiv
  dsimp only
  split <;> omega

/-- The rounded magnitude, capped at infinity. -/
theorem roundMag_eq_min (n d : Nat) : F32.roundMag n d = min 0x7F800000 (2 ^ 23 * F32.scale n d + F32.roundDiv n (d * 2 ^ F32.scale n d)) := by
  unfold F32.roundMag F32.infMag
  dsimp only
  split <;> omega

/-- No rounding goes beyond infinity. -/
theorem roundMag_le (n d) : F32.roundMag n d ≤ 0x7F800000 := by rw [roundMag_eq_min]; exact Nat.min_le_left _ _

/-- The value of a rounded result. -/
theorem f32_value_round (neg n d) : F32.value (F32.round neg n d) = F32.signed neg (magUnits (F32.roundMag n d)) := by
  have := roundMag_le n d
  unfold F32.value F32.round
  rw [f32_sign_with _ _ (by omega), f32_units_eq, f32_mag_with _ _ (by omega)]

/-! ## The integer square root -/

/-- Bit by bit, the root stays the largest so far. -/
theorem isqrtBits_spec (n : Nat) : ∀ k r, r * r ≤ n → n < (r + 2 ^ k) * (r + 2 ^ k) →
    F32.isqrtBits n k r * F32.isqrtBits n k r ≤ n ∧ n < (F32.isqrtBits n k r + 1) * (F32.isqrtBits n k r + 1) := by
  intro k
  induction k with
  | zero => intro r h1 h2; exact ⟨h1, h2⟩
  | succ k ih =>
    intro r h1 h2
    unfold F32.isqrtBits
    split
    next h => refine ih _ h ?_; rw [show r + 2 ^ k + 2 ^ k = r + 2 ^ (k + 1) by ring]; exact h2
    next h => exact ih _ h1 (by omega)

/-- The integer square root. -/
theorem isqrt_spec (n : Nat) : F32.isqrt n * F32.isqrt n ≤ n ∧ n < (F32.isqrt n + 1) * (F32.isqrt n + 1) := by
  unfold F32.isqrt
  apply isqrtBits_spec
  · omega
  · have h1 : n < 2 ^ (n.log2 + 1) := Nat.lt_log2_self
    rw [Nat.zero_add, ← Nat.pow_add]
    exact Nat.lt_of_lt_of_le h1 (Nat.pow_le_pow_right (by omega) (by omega))

/-! ## NaN -/

/-- A magnitude up to infinity is no NaN. -/
theorem f32_nan_with (neg m) (h : m ≤ 0x7F800000) : F32.isNaN (F32.withSign neg m) = false := by
  unfold F32.isNaN; rw [f32_exp_eq, f32_frac_eq, f32_mag_with _ _ (by omega)]
  simp only [Bool.and_eq_false_iff, beq_eq_false_iff_ne, bne_eq_false_iff_eq]; omega

/-- A rounding gives no NaN. -/
theorem f32_nan_round (neg n d) : F32.isNaN (F32.round neg n d) = false := f32_nan_with _ _ (roundMag_le _ _)

/-- An infinity is no NaN. -/
theorem f32_nan_inf (neg) : F32.isNaN (F32.inf neg) = false := f32_nan_with _ _ (by decide)

/-- The canonical NaN is one. -/
theorem f32_nan_nan : F32.isNaN F32.nan = true := by decide

/-- Negation keeps NaNs. -/
theorem f32_nan_neg (a : Word) : F32.isNaN (F32.neg a) = F32.isNaN a := by
  have : (F32.neg a).toNat % 2 ^ 31 = a.toNat % 2 ^ 31 := by
    unfold F32.neg
    rw [BitVec.toNat_xor, Nat.xor_mod_two_pow]; simp
  unfold F32.isNaN; rw [f32_exp_eq, f32_frac_eq, f32_exp_eq, f32_frac_eq, this]

/-- A NaN operand of an addition gives the canonical NaN. -/
theorem f32_add_nan {a b : Word} (h : F32.isNaN a = true ∨ F32.isNaN b = true) : F32.add a b = F32.nan := by
  unfold F32.add; rw [if_pos (by simpa using h)]

/-- A NaN operand of a multiplication gives the canonical NaN. -/
theorem f32_mul_nan {a b : Word} (h : F32.isNaN a = true ∨ F32.isNaN b = true) : F32.mul a b = F32.nan := by
  unfold F32.mul; dsimp only; rw [if_pos (by simpa using h)]

/-- A NaN operand of a division gives the canonical NaN. -/
theorem f32_div_nan {a b : Word} (h : F32.isNaN a = true ∨ F32.isNaN b = true) : F32.div a b = F32.nan := by
  unfold F32.div; dsimp only; rw [if_pos (by simpa using h)]

/-- A division gives the canonical NaN or no NaN. -/
theorem f32_canon_div (a b : Word) : F32.div a b = F32.nan ∨ F32.isNaN (F32.div a b) = false := by
  unfold F32.div; dsimp only
  split_ifs
  all_goals with_reducible first | exact .inl rfl | exact .inr (f32_nan_round _ _ _) | exact .inr (f32_nan_inf _) | exact .inr (f32_nan_with _ _ (by decide))

/-- A square root gives the canonical NaN or no NaN. -/
theorem f32_canon_sqrt (a : Word) : F32.sqrt a = F32.nan ∨ F32.isNaN (F32.sqrt a) = false := by
  unfold F32.sqrt
  split
  · exact .inl rfl
  next hn =>
  split
  · right; simpa using hn
  split
  · exact .inl rfl
  split
  · exact .inr (f32_nan_inf _)
  · exact .inr (f32_nan_round _ _ _)

/-! ## Signs -/

/-- The sign of a rounded result. -/
theorem f32_sign_round (neg n d) : F32.signBit (F32.round neg n d) = neg := by
  have := roundMag_le n d; exact f32_sign_with _ _ (by omega)

/-- The sign of an infinity. -/
theorem f32_sign_inf (neg) : F32.signBit (F32.inf neg) = neg := f32_sign_with _ _ (by decide)

/-- A pattern of sign 0 has no negative value. -/
theorem f32_value_nonneg {a : Word} (h : F32.signBit a = false) : 0 ≤ F32.value a := by
  unfold F32.value F32.signed; rw [h]; simp

/-- The sum of two patterns of sign 0 has sign 0. -/
theorem f32_sign_add {a b : Word} (ha : F32.signBit a = false) (hb : F32.signBit b = false) : F32.signBit (F32.add a b) = false := by
  unfold F32.add; dsimp only
  have h1 := f32_value_nonneg ha
  have h2 := f32_value_nonneg hb
  split_ifs
  · decide
  · decide
  · rw [f32_sign_inf]; exact ha
  · rw [f32_sign_inf]; exact hb
  · rw [ha, hb]; decide
  · rw [f32_sign_round]; simp; omega

/-- The product of two patterns of one sign has sign 0. -/
theorem f32_sign_mul {a b : Word} (h : F32.signBit a = F32.signBit b) : F32.signBit (F32.mul a b) = false := by
  have : (F32.signBit a ^^ F32.signBit b) = false := by rw [h]; simp
  unfold F32.mul; dsimp only; rw [this]
  split_ifs
  all_goals with_reducible first | exact f32_sign_inf _ | exact f32_sign_round _ _ _ | decide

/-- The quotient of two patterns of sign 0 has sign 0. -/
theorem f32_sign_div {a b : Word} (ha : F32.signBit a = false) (hb : F32.signBit b = false) : F32.signBit (F32.div a b) = false := by
  unfold F32.div; dsimp only; rw [ha, hb]
  split_ifs
  all_goals with_reducible first | exact f32_sign_inf _ | exact f32_sign_round _ _ _ | (simp only [Bool.xor_self]; exact f32_sign_round _ _ _) | (simp only [Bool.xor_self]; exact f32_sign_inf _) | decide

/-- The square root of a pattern of sign 0 has sign 0. -/
theorem f32_sign_sqrt {a : Word} (h : F32.signBit a = false) : F32.signBit (F32.sqrt a) = false := by
  unfold F32.sqrt; dsimp only
  split_ifs
  all_goals with_reducible first | exact f32_sign_inf _ | exact f32_sign_round _ _ _ | exact h | decide

end Sys2Proof.Machine
end

