-- ==== Sys2Proof/Laws/State.lean ====
section
/-! SUPPORT. One lemma per field per update of the state: what each named update of the block leaves alone, and what it
writes. With these no proof unfolds an update. -/

namespace Sys2Proof.Machine

/-! ## raise (R810) -/

@[simp] theorem raise_tickEn (b : Block) (e : Cause) (i : Word) : (b.raise e i).tickEn = b.tickEn := by
  unfold Block.raise; split <;> rfl

@[simp] theorem raise_phase (b : Block) (e : Cause) (i : Word) : (b.raise e i).phase = b.phase := by
  unfold Block.raise; split <;> rfl

@[simp] theorem raise_spPending (b : Block) (e : Cause) (i : Word) : (b.raise e i).spPending = b.spPending := by
  unfold Block.raise; split <;> rfl

@[simp] theorem raise_irqEn (b : Block) (e : Cause) (i : Word) : (b.raise e i).irqEn = b.irqEn := by
  unfold Block.raise; split <;> rfl

@[simp] theorem raise_cfg (b : Block) (e : Cause) (i : Word) : (b.raise e i).cfg = b.cfg := by
  unfold Block.raise; split <;> rfl

@[simp] theorem raise_period (b : Block) (e : Cause) (i : Word) : (b.raise e i).period = b.period := by
  unfold Block.raise; split <;> rfl

@[simp] theorem raise_timer (b : Block) (e : Cause) (i : Word) : (b.raise e i).timer = b.timer := by
  unfold Block.raise; split <;> rfl

@[simp] theorem raise_tickCount (b : Block) (e : Cause) (i : Word) : (b.raise e i).tickCount = b.tickCount := by
  unfold Block.raise; split <;> rfl

@[simp] theorem raise_missed (b : Block) (e : Cause) (i : Word) : (b.raise e i).missed = b.missed := by
  unfold Block.raise; split <;> rfl

@[simp] theorem raise_setpoint (b : Block) (e : Cause) (i : Word) : (b.raise e i).setpoint = b.setpoint := by
  unfold Block.raise; split <;> rfl

@[simp] theorem raise_data (b : Block) (e : Cause) (i : Word) : (b.raise e i).data = b.data := by
  unfold Block.raise; split <;> rfl

@[simp] theorem raise_result (b : Block) (e : Cause) (i : Word) : (b.raise e i).result = b.result := by
  unfold Block.raise; split <;> rfl

@[simp] theorem raise_lastOut (b : Block) (e : Cause) (i : Word) : (b.raise e i).lastOut = b.lastOut := by
  unfold Block.raise; split <;> rfl

@[simp] theorem raise_lastPwm (b : Block) (e : Cause) (i : Word) : (b.raise e i).lastPwm = b.lastPwm := by
  unfold Block.raise; split <;> rfl

@[simp] theorem raise_snapVmean (b : Block) (e : Cause) (i : Word) : (b.raise e i).snapVmean = b.snapVmean := by
  unfold Block.raise; split <;> rfl

@[simp] theorem raise_snapVsd (b : Block) (e : Cause) (i : Word) : (b.raise e i).snapVsd = b.snapVsd := by
  unfold Block.raise; split <;> rfl

@[simp] theorem raise_snapDmean (b : Block) (e : Cause) (i : Word) : (b.raise e i).snapDmean = b.snapDmean := by
  unfold Block.raise; split <;> rfl

@[simp] theorem raise_snapDsd (b : Block) (e : Cause) (i : Word) : (b.raise e i).snapDsd = b.snapDsd := by
  unfold Block.raise; split <;> rfl

@[simp] theorem raise_snapTick (b : Block) (e : Cause) (i : Word) : (b.raise e i).snapTick = b.snapTick := by
  unfold Block.raise; split <;> rfl

@[simp] theorem raise_vw (b : Block) (e : Cause) (i : Word) : (b.raise e i).vw = b.vw := by
  unfold Block.raise; split <;> rfl

@[simp] theorem raise_dw (b : Block) (e : Cause) (i : Word) : (b.raise e i).dw = b.dw := by
  unfold Block.raise; split <;> rfl

@[simp] theorem raise_lOut (b : Block) (e : Cause) (i : Word) : (b.raise e i).lOut = b.lOut := by
  unfold Block.raise; split <;> rfl

@[simp] theorem raise_lPwm (b : Block) (e : Cause) (i : Word) : (b.raise e i).lPwm = b.lPwm := by
  unfold Block.raise; split <;> rfl

@[simp] theorem raise_lVel (b : Block) (e : Cause) (i : Word) : (b.raise e i).lVel = b.lVel := by
  unfold Block.raise; split <;> rfl

@[simp] theorem raise_lDuty (b : Block) (e : Cause) (i : Word) : (b.raise e i).lDuty = b.lDuty := by
  unfold Block.raise; split <;> rfl

@[simp] theorem raise_heldTarget (b : Block) (e : Cause) (i : Word) : (b.raise e i).heldTarget = b.heldTarget := by
  unfold Block.raise; split <;> rfl

@[simp] theorem raise_sticky (b : Block) (e : Cause) (i : Word) : (b.raise e i).sticky = b.sticky.mark e := by
  unfold Block.raise; split <;> rfl

@[simp] theorem raise_errCause (b : Block) (e : Cause) (i : Word) : (b.raise e i).errCause = if b.errCause = .noError then e else b.errCause := by
  unfold Block.raise; split <;> rfl

@[simp] theorem raise_errInfo (b : Block) (e : Cause) (i : Word) : (b.raise e i).errInfo = if b.errCause = .noError then i else b.errInfo := by
  unfold Block.raise; split <;> rfl

/-! ## clearError (R708) -/

@[simp] theorem clearError_tickEn (b : Block) : (b.clearError).tickEn = b.tickEn := rfl

@[simp] theorem clearError_phase (b : Block) : (b.clearError).phase = b.phase := rfl

@[simp] theorem clearError_spPending (b : Block) : (b.clearError).spPending = b.spPending := rfl

@[simp] theorem clearError_sticky (b : Block) : (b.clearError).sticky = b.sticky := rfl

@[simp] theorem clearError_irqEn (b : Block) : (b.clearError).irqEn = b.irqEn := rfl

@[simp] theorem clearError_cfg (b : Block) : (b.clearError).cfg = b.cfg := rfl

@[simp] theorem clearError_period (b : Block) : (b.clearError).period = b.period := rfl

@[simp] theorem clearError_timer (b : Block) : (b.clearError).timer = b.timer := rfl

@[simp] theorem clearError_tickCount (b : Block) : (b.clearError).tickCount = b.tickCount := rfl

@[simp] theorem clearError_missed (b : Block) : (b.clearError).missed = b.missed := rfl

@[simp] theorem clearError_setpoint (b : Block) : (b.clearError).setpoint = b.setpoint := rfl

@[simp] theorem clearError_data (b : Block) : (b.clearError).data = b.data := rfl

@[simp] theorem clearError_result (b : Block) : (b.clearError).result = b.result := rfl

@[simp] theorem clearError_lastOut (b : Block) : (b.clearError).lastOut = b.lastOut := rfl

@[simp] theorem clearError_lastPwm (b : Block) : (b.clearError).lastPwm = b.lastPwm := rfl

@[simp] theorem clearError_snapVmean (b : Block) : (b.clearError).snapVmean = b.snapVmean := rfl

@[simp] theorem clearError_snapVsd (b : Block) : (b.clearError).snapVsd = b.snapVsd := rfl

@[simp] theorem clearError_snapDmean (b : Block) : (b.clearError).snapDmean = b.snapDmean := rfl

@[simp] theorem clearError_snapDsd (b : Block) : (b.clearError).snapDsd = b.snapDsd := rfl

@[simp] theorem clearError_snapTick (b : Block) : (b.clearError).snapTick = b.snapTick := rfl

@[simp] theorem clearError_vw (b : Block) : (b.clearError).vw = b.vw := rfl

@[simp] theorem clearError_dw (b : Block) : (b.clearError).dw = b.dw := rfl

@[simp] theorem clearError_lOut (b : Block) : (b.clearError).lOut = b.lOut := rfl

@[simp] theorem clearError_lPwm (b : Block) : (b.clearError).lPwm = b.lPwm := rfl

@[simp] theorem clearError_lVel (b : Block) : (b.clearError).lVel = b.lVel := rfl

@[simp] theorem clearError_lDuty (b : Block) : (b.clearError).lDuty = b.lDuty := rfl

@[simp] theorem clearError_heldTarget (b : Block) : (b.clearError).heldTarget = b.heldTarget := rfl

@[simp] theorem clearError_errCause (b : Block) : (b.clearError).errCause = .noError := rfl

@[simp] theorem clearError_errInfo (b : Block) : (b.clearError).errInfo = 0#32 := rfl

/-! ## setWindow (R15) -/

@[simp] theorem setWindow_tickEn (b : Block) (w : Win) (x : Window) : (b.setWindow w x).tickEn = b.tickEn := by
  cases w <;> rfl

@[simp] theorem setWindow_phase (b : Block) (w : Win) (x : Window) : (b.setWindow w x).phase = b.phase := by
  cases w <;> rfl

@[simp] theorem setWindow_spPending (b : Block) (w : Win) (x : Window) : (b.setWindow w x).spPending = b.spPending := by
  cases w <;> rfl

@[simp] theorem setWindow_sticky (b : Block) (w : Win) (x : Window) : (b.setWindow w x).sticky = b.sticky := by
  cases w <;> rfl

@[simp] theorem setWindow_errCause (b : Block) (w : Win) (x : Window) : (b.setWindow w x).errCause = b.errCause := by
  cases w <;> rfl

@[simp] theorem setWindow_errInfo (b : Block) (w : Win) (x : Window) : (b.setWindow w x).errInfo = b.errInfo := by
  cases w <;> rfl

@[simp] theorem setWindow_irqEn (b : Block) (w : Win) (x : Window) : (b.setWindow w x).irqEn = b.irqEn := by
  cases w <;> rfl

@[simp] theorem setWindow_cfg (b : Block) (w : Win) (x : Window) : (b.setWindow w x).cfg = b.cfg := by
  cases w <;> rfl

@[simp] theorem setWindow_period (b : Block) (w : Win) (x : Window) : (b.setWindow w x).period = b.period := by
  cases w <;> rfl

@[simp] theorem setWindow_timer (b : Block) (w : Win) (x : Window) : (b.setWindow w x).timer = b.timer := by
  cases w <;> rfl

@[simp] theorem setWindow_tickCount (b : Block) (w : Win) (x : Window) : (b.setWindow w x).tickCount = b.tickCount := by
  cases w <;> rfl

@[simp] theorem setWindow_missed (b : Block) (w : Win) (x : Window) : (b.setWindow w x).missed = b.missed := by
  cases w <;> rfl

@[simp] theorem setWindow_setpoint (b : Block) (w : Win) (x : Window) : (b.setWindow w x).setpoint = b.setpoint := by
  cases w <;> rfl

@[simp] theorem setWindow_data (b : Block) (w : Win) (x : Window) : (b.setWindow w x).data = b.data := by
  cases w <;> rfl

@[simp] theorem setWindow_result (b : Block) (w : Win) (x : Window) : (b.setWindow w x).result = b.result := by
  cases w <;> rfl

@[simp] theorem setWindow_lastOut (b : Block) (w : Win) (x : Window) : (b.setWindow w x).lastOut = b.lastOut := by
  cases w <;> rfl

@[simp] theorem setWindow_lastPwm (b : Block) (w : Win) (x : Window) : (b.setWindow w x).lastPwm = b.lastPwm := by
  cases w <;> rfl

@[simp] theorem setWindow_snapVmean (b : Block) (w : Win) (x : Window) : (b.setWindow w x).snapVmean = b.snapVmean := by
  cases w <;> rfl

@[simp] theorem setWindow_snapVsd (b : Block) (w : Win) (x : Window) : (b.setWindow w x).snapVsd = b.snapVsd := by
  cases w <;> rfl

@[simp] theorem setWindow_snapDmean (b : Block) (w : Win) (x : Window) : (b.setWindow w x).snapDmean = b.snapDmean := by
  cases w <;> rfl

@[simp] theorem setWindow_snapDsd (b : Block) (w : Win) (x : Window) : (b.setWindow w x).snapDsd = b.snapDsd := by
  cases w <;> rfl

@[simp] theorem setWindow_snapTick (b : Block) (w : Win) (x : Window) : (b.setWindow w x).snapTick = b.snapTick := by
  cases w <;> rfl

@[simp] theorem setWindow_lOut (b : Block) (w : Win) (x : Window) : (b.setWindow w x).lOut = b.lOut := by
  cases w <;> rfl

@[simp] theorem setWindow_lPwm (b : Block) (w : Win) (x : Window) : (b.setWindow w x).lPwm = b.lPwm := by
  cases w <;> rfl

@[simp] theorem setWindow_lVel (b : Block) (w : Win) (x : Window) : (b.setWindow w x).lVel = b.lVel := by
  cases w <;> rfl

@[simp] theorem setWindow_lDuty (b : Block) (w : Win) (x : Window) : (b.setWindow w x).lDuty = b.lDuty := by
  cases w <;> rfl

@[simp] theorem setWindow_heldTarget (b : Block) (w : Win) (x : Window) : (b.setWindow w x).heldTarget = b.heldTarget := by
  cases w <;> rfl

/-! ## startTick (R510) -/

@[simp] theorem startTick_tickEn (b : Block) : (b.startTick).tickEn = b.tickEn := rfl

@[simp] theorem startTick_spPending (b : Block) : (b.startTick).spPending = b.spPending := rfl

@[simp] theorem startTick_sticky (b : Block) : (b.startTick).sticky = b.sticky := rfl

@[simp] theorem startTick_errCause (b : Block) : (b.startTick).errCause = b.errCause := rfl

@[simp] theorem startTick_errInfo (b : Block) : (b.startTick).errInfo = b.errInfo := rfl

@[simp] theorem startTick_irqEn (b : Block) : (b.startTick).irqEn = b.irqEn := rfl

@[simp] theorem startTick_cfg (b : Block) : (b.startTick).cfg = b.cfg := rfl

@[simp] theorem startTick_period (b : Block) : (b.startTick).period = b.period := rfl

@[simp] theorem startTick_timer (b : Block) : (b.startTick).timer = b.timer := rfl

@[simp] theorem startTick_tickCount (b : Block) : (b.startTick).tickCount = b.tickCount := rfl

@[simp] theorem startTick_missed (b : Block) : (b.startTick).missed = b.missed := rfl

@[simp] theorem startTick_setpoint (b : Block) : (b.startTick).setpoint = b.setpoint := rfl

@[simp] theorem startTick_data (b : Block) : (b.startTick).data = b.data := rfl

@[simp] theorem startTick_result (b : Block) : (b.startTick).result = b.result := rfl

@[simp] theorem startTick_lastOut (b : Block) : (b.startTick).lastOut = b.lastOut := rfl

@[simp] theorem startTick_lastPwm (b : Block) : (b.startTick).lastPwm = b.lastPwm := rfl

@[simp] theorem startTick_snapVmean (b : Block) : (b.startTick).snapVmean = b.snapVmean := rfl

@[simp] theorem startTick_snapVsd (b : Block) : (b.startTick).snapVsd = b.snapVsd := rfl

@[simp] theorem startTick_snapDmean (b : Block) : (b.startTick).snapDmean = b.snapDmean := rfl

@[simp] theorem startTick_snapDsd (b : Block) : (b.startTick).snapDsd = b.snapDsd := rfl

@[simp] theorem startTick_snapTick (b : Block) : (b.startTick).snapTick = b.snapTick := rfl

@[simp] theorem startTick_vw (b : Block) : (b.startTick).vw = b.vw := rfl

@[simp] theorem startTick_dw (b : Block) : (b.startTick).dw = b.dw := rfl

@[simp] theorem startTick_lOut (b : Block) : (b.startTick).lOut = b.lOut := rfl

@[simp] theorem startTick_lPwm (b : Block) : (b.startTick).lPwm = b.lPwm := rfl

@[simp] theorem startTick_lVel (b : Block) : (b.startTick).lVel = b.lVel := rfl

@[simp] theorem startTick_lDuty (b : Block) : (b.startTick).lDuty = b.lDuty := rfl

@[simp] theorem startTick_heldTarget (b : Block) : (b.startTick).heldTarget = b.heldTarget := rfl

@[simp] theorem startTick_phase (b : Block) : (b.startTick).phase = (if b.spPending then .settgt else .refresh) := rfl

/-! ## SETPOINT written (R729) -/

@[simp] theorem setpointWritten_tickEn (b : Block) (w : Word) : (b.setpointWritten w).tickEn = b.tickEn := rfl

@[simp] theorem setpointWritten_phase (b : Block) (w : Word) : (b.setpointWritten w).phase = b.phase := rfl

@[simp] theorem setpointWritten_sticky (b : Block) (w : Word) : (b.setpointWritten w).sticky = b.sticky := rfl

@[simp] theorem setpointWritten_errCause (b : Block) (w : Word) : (b.setpointWritten w).errCause = b.errCause := rfl

@[simp] theorem setpointWritten_errInfo (b : Block) (w : Word) : (b.setpointWritten w).errInfo = b.errInfo := rfl

@[simp] theorem setpointWritten_irqEn (b : Block) (w : Word) : (b.setpointWritten w).irqEn = b.irqEn := rfl

@[simp] theorem setpointWritten_cfg (b : Block) (w : Word) : (b.setpointWritten w).cfg = b.cfg := rfl

@[simp] theorem setpointWritten_period (b : Block) (w : Word) : (b.setpointWritten w).period = b.period := rfl

@[simp] theorem setpointWritten_timer (b : Block) (w : Word) : (b.setpointWritten w).timer = b.timer := rfl

@[simp] theorem setpointWritten_tickCount (b : Block) (w : Word) : (b.setpointWritten w).tickCount = b.tickCount := rfl

@[simp] theorem setpointWritten_missed (b : Block) (w : Word) : (b.setpointWritten w).missed = b.missed := rfl

@[simp] theorem setpointWritten_data (b : Block) (w : Word) : (b.setpointWritten w).data = b.data := rfl

@[simp] theorem setpointWritten_result (b : Block) (w : Word) : (b.setpointWritten w).result = b.result := rfl

@[simp] theorem setpointWritten_lastOut (b : Block) (w : Word) : (b.setpointWritten w).lastOut = b.lastOut := rfl

@[simp] theorem setpointWritten_lastPwm (b : Block) (w : Word) : (b.setpointWritten w).lastPwm = b.lastPwm := rfl

@[simp] theorem setpointWritten_snapVmean (b : Block) (w : Word) : (b.setpointWritten w).snapVmean = b.snapVmean := rfl

@[simp] theorem setpointWritten_snapVsd (b : Block) (w : Word) : (b.setpointWritten w).snapVsd = b.snapVsd := rfl

@[simp] theorem setpointWritten_snapDmean (b : Block) (w : Word) : (b.setpointWritten w).snapDmean = b.snapDmean := rfl

@[simp] theorem setpointWritten_snapDsd (b : Block) (w : Word) : (b.setpointWritten w).snapDsd = b.snapDsd := rfl

@[simp] theorem setpointWritten_snapTick (b : Block) (w : Word) : (b.setpointWritten w).snapTick = b.snapTick := rfl

@[simp] theorem setpointWritten_vw (b : Block) (w : Word) : (b.setpointWritten w).vw = b.vw := rfl

@[simp] theorem setpointWritten_dw (b : Block) (w : Word) : (b.setpointWritten w).dw = b.dw := rfl

@[simp] theorem setpointWritten_lOut (b : Block) (w : Word) : (b.setpointWritten w).lOut = b.lOut := rfl

@[simp] theorem setpointWritten_lPwm (b : Block) (w : Word) : (b.setpointWritten w).lPwm = b.lPwm := rfl

@[simp] theorem setpointWritten_lVel (b : Block) (w : Word) : (b.setpointWritten w).lVel = b.lVel := rfl

@[simp] theorem setpointWritten_lDuty (b : Block) (w : Word) : (b.setpointWritten w).lDuty = b.lDuty := rfl

@[simp] theorem setpointWritten_setpoint (b : Block) (w : Word) : (b.setpointWritten w).setpoint = w := rfl

@[simp] theorem setpointWritten_spPending (b : Block) (w : Word) : (b.setpointWritten w).spPending = true := rfl

@[simp] theorem setpointWritten_heldTarget (b : Block) (w : Word) : (b.setpointWritten w).heldTarget = (if b.phase = .settgt then some b.target else b.heldTarget) := rfl

/-! ## SETTGT (R511) -/

@[simp] theorem targetSet_tickEn (b : Block) : (b.targetSet).tickEn = b.tickEn := rfl

@[simp] theorem targetSet_sticky (b : Block) : (b.targetSet).sticky = b.sticky := rfl

@[simp] theorem targetSet_errCause (b : Block) : (b.targetSet).errCause = b.errCause := rfl

@[simp] theorem targetSet_errInfo (b : Block) : (b.targetSet).errInfo = b.errInfo := rfl

@[simp] theorem targetSet_irqEn (b : Block) : (b.targetSet).irqEn = b.irqEn := rfl

@[simp] theorem targetSet_cfg (b : Block) : (b.targetSet).cfg = b.cfg := rfl

@[simp] theorem targetSet_period (b : Block) : (b.targetSet).period = b.period := rfl

@[simp] theorem targetSet_timer (b : Block) : (b.targetSet).timer = b.timer := rfl

@[simp] theorem targetSet_tickCount (b : Block) : (b.targetSet).tickCount = b.tickCount := rfl

@[simp] theorem targetSet_missed (b : Block) : (b.targetSet).missed = b.missed := rfl

@[simp] theorem targetSet_setpoint (b : Block) : (b.targetSet).setpoint = b.setpoint := rfl

@[simp] theorem targetSet_data (b : Block) : (b.targetSet).data = b.data := rfl

@[simp] theorem targetSet_result (b : Block) : (b.targetSet).result = b.result := rfl

@[simp] theorem targetSet_lastOut (b : Block) : (b.targetSet).lastOut = b.lastOut := rfl

@[simp] theorem targetSet_lastPwm (b : Block) : (b.targetSet).lastPwm = b.lastPwm := rfl

@[simp] theorem targetSet_snapVmean (b : Block) : (b.targetSet).snapVmean = b.snapVmean := rfl

@[simp] theorem targetSet_snapVsd (b : Block) : (b.targetSet).snapVsd = b.snapVsd := rfl

@[simp] theorem targetSet_snapDmean (b : Block) : (b.targetSet).snapDmean = b.snapDmean := rfl

@[simp] theorem targetSet_snapDsd (b : Block) : (b.targetSet).snapDsd = b.snapDsd := rfl

@[simp] theorem targetSet_snapTick (b : Block) : (b.targetSet).snapTick = b.snapTick := rfl

@[simp] theorem targetSet_vw (b : Block) : (b.targetSet).vw = b.vw := rfl

@[simp] theorem targetSet_dw (b : Block) : (b.targetSet).dw = b.dw := rfl

@[simp] theorem targetSet_lOut (b : Block) : (b.targetSet).lOut = b.lOut := rfl

@[simp] theorem targetSet_lPwm (b : Block) : (b.targetSet).lPwm = b.lPwm := rfl

@[simp] theorem targetSet_lVel (b : Block) : (b.targetSet).lVel = b.lVel := rfl

@[simp] theorem targetSet_lDuty (b : Block) : (b.targetSet).lDuty = b.lDuty := rfl

@[simp] theorem targetSet_phase (b : Block) : (b.targetSet).phase = .refresh := rfl

@[simp] theorem targetSet_spPending (b : Block) : (b.targetSet).spPending = b.heldTarget.isSome := rfl

@[simp] theorem targetSet_heldTarget (b : Block) : (b.targetSet).heldTarget = none := rfl

/-! ## REFRESH (R512) -/

@[simp] theorem refreshed_tickEn (b : Block) : (b.refreshed).tickEn = b.tickEn := rfl

@[simp] theorem refreshed_spPending (b : Block) : (b.refreshed).spPending = b.spPending := rfl

@[simp] theorem refreshed_sticky (b : Block) : (b.refreshed).sticky = b.sticky := rfl

@[simp] theorem refreshed_errCause (b : Block) : (b.refreshed).errCause = b.errCause := rfl

@[simp] theorem refreshed_errInfo (b : Block) : (b.refreshed).errInfo = b.errInfo := rfl

@[simp] theorem refreshed_irqEn (b : Block) : (b.refreshed).irqEn = b.irqEn := rfl

@[simp] theorem refreshed_cfg (b : Block) : (b.refreshed).cfg = b.cfg := rfl

@[simp] theorem refreshed_period (b : Block) : (b.refreshed).period = b.period := rfl

@[simp] theorem refreshed_timer (b : Block) : (b.refreshed).timer = b.timer := rfl

@[simp] theorem refreshed_tickCount (b : Block) : (b.refreshed).tickCount = b.tickCount := rfl

@[simp] theorem refreshed_missed (b : Block) : (b.refreshed).missed = b.missed := rfl

@[simp] theorem refreshed_setpoint (b : Block) : (b.refreshed).setpoint = b.setpoint := rfl

@[simp] theorem refreshed_data (b : Block) : (b.refreshed).data = b.data := rfl

@[simp] theorem refreshed_result (b : Block) : (b.refreshed).result = b.result := rfl

@[simp] theorem refreshed_lastOut (b : Block) : (b.refreshed).lastOut = b.lastOut := rfl

@[simp] theorem refreshed_lastPwm (b : Block) : (b.refreshed).lastPwm = b.lastPwm := rfl

@[simp] theorem refreshed_snapVmean (b : Block) : (b.refreshed).snapVmean = b.snapVmean := rfl

@[simp] theorem refreshed_snapVsd (b : Block) : (b.refreshed).snapVsd = b.snapVsd := rfl

@[simp] theorem refreshed_snapDmean (b : Block) : (b.refreshed).snapDmean = b.snapDmean := rfl

@[simp] theorem refreshed_snapDsd (b : Block) : (b.refreshed).snapDsd = b.snapDsd := rfl

@[simp] theorem refreshed_snapTick (b : Block) : (b.refreshed).snapTick = b.snapTick := rfl

@[simp] theorem refreshed_vw (b : Block) : (b.refreshed).vw = b.vw := rfl

@[simp] theorem refreshed_dw (b : Block) : (b.refreshed).dw = b.dw := rfl

@[simp] theorem refreshed_lOut (b : Block) : (b.refreshed).lOut = b.lOut := rfl

@[simp] theorem refreshed_lPwm (b : Block) : (b.refreshed).lPwm = b.lPwm := rfl

@[simp] theorem refreshed_lVel (b : Block) : (b.refreshed).lVel = b.lVel := rfl

@[simp] theorem refreshed_lDuty (b : Block) : (b.refreshed).lDuty = b.lDuty := rfl

@[simp] theorem refreshed_heldTarget (b : Block) : (b.refreshed).heldTarget = b.heldTarget := rfl

@[simp] theorem refreshed_phase (b : Block) : (b.refreshed).phase = .compute := rfl

/-! ## COMPUTE (R513) -/

@[simp] theorem computed_tickEn (b : Block) : (b.computed).tickEn = b.tickEn := rfl

@[simp] theorem computed_spPending (b : Block) : (b.computed).spPending = b.spPending := rfl

@[simp] theorem computed_sticky (b : Block) : (b.computed).sticky = b.sticky := rfl

@[simp] theorem computed_errCause (b : Block) : (b.computed).errCause = b.errCause := rfl

@[simp] theorem computed_errInfo (b : Block) : (b.computed).errInfo = b.errInfo := rfl

@[simp] theorem computed_irqEn (b : Block) : (b.computed).irqEn = b.irqEn := rfl

@[simp] theorem computed_cfg (b : Block) : (b.computed).cfg = b.cfg := rfl

@[simp] theorem computed_period (b : Block) : (b.computed).period = b.period := rfl

@[simp] theorem computed_timer (b : Block) : (b.computed).timer = b.timer := rfl

@[simp] theorem computed_tickCount (b : Block) : (b.computed).tickCount = b.tickCount := rfl

@[simp] theorem computed_missed (b : Block) : (b.computed).missed = b.missed := rfl

@[simp] theorem computed_setpoint (b : Block) : (b.computed).setpoint = b.setpoint := rfl

@[simp] theorem computed_data (b : Block) : (b.computed).data = b.data := rfl

@[simp] theorem computed_result (b : Block) : (b.computed).result = b.result := rfl

@[simp] theorem computed_lastOut (b : Block) : (b.computed).lastOut = b.lastOut := rfl

@[simp] theorem computed_lastPwm (b : Block) : (b.computed).lastPwm = b.lastPwm := rfl

@[simp] theorem computed_snapVmean (b : Block) : (b.computed).snapVmean = b.snapVmean := rfl

@[simp] theorem computed_snapVsd (b : Block) : (b.computed).snapVsd = b.snapVsd := rfl

@[simp] theorem computed_snapDmean (b : Block) : (b.computed).snapDmean = b.snapDmean := rfl

@[simp] theorem computed_snapDsd (b : Block) : (b.computed).snapDsd = b.snapDsd := rfl

@[simp] theorem computed_snapTick (b : Block) : (b.computed).snapTick = b.snapTick := rfl

@[simp] theorem computed_vw (b : Block) : (b.computed).vw = b.vw := rfl

@[simp] theorem computed_dw (b : Block) : (b.computed).dw = b.dw := rfl

@[simp] theorem computed_lOut (b : Block) : (b.computed).lOut = b.lOut := rfl

@[simp] theorem computed_lPwm (b : Block) : (b.computed).lPwm = b.lPwm := rfl

@[simp] theorem computed_lVel (b : Block) : (b.computed).lVel = b.lVel := rfl

@[simp] theorem computed_lDuty (b : Block) : (b.computed).lDuty = b.lDuty := rfl

@[simp] theorem computed_heldTarget (b : Block) : (b.computed).heldTarget = b.heldTarget := rfl

@[simp] theorem computed_phase (b : Block) : (b.computed).phase = .getout := rfl

/-! ## GETOUT (R514) -/

@[simp] theorem gotOut_tickEn (b : Block) (r : Word) : (b.gotOut r).tickEn = b.tickEn := rfl

@[simp] theorem gotOut_spPending (b : Block) (r : Word) : (b.gotOut r).spPending = b.spPending := rfl

@[simp] theorem gotOut_sticky (b : Block) (r : Word) : (b.gotOut r).sticky = b.sticky := rfl

@[simp] theorem gotOut_errCause (b : Block) (r : Word) : (b.gotOut r).errCause = b.errCause := rfl

@[simp] theorem gotOut_errInfo (b : Block) (r : Word) : (b.gotOut r).errInfo = b.errInfo := rfl

@[simp] theorem gotOut_irqEn (b : Block) (r : Word) : (b.gotOut r).irqEn = b.irqEn := rfl

@[simp] theorem gotOut_cfg (b : Block) (r : Word) : (b.gotOut r).cfg = b.cfg := rfl

@[simp] theorem gotOut_period (b : Block) (r : Word) : (b.gotOut r).period = b.period := rfl

@[simp] theorem gotOut_timer (b : Block) (r : Word) : (b.gotOut r).timer = b.timer := rfl

@[simp] theorem gotOut_tickCount (b : Block) (r : Word) : (b.gotOut r).tickCount = b.tickCount := rfl

@[simp] theorem gotOut_missed (b : Block) (r : Word) : (b.gotOut r).missed = b.missed := rfl

@[simp] theorem gotOut_setpoint (b : Block) (r : Word) : (b.gotOut r).setpoint = b.setpoint := rfl

@[simp] theorem gotOut_data (b : Block) (r : Word) : (b.gotOut r).data = b.data := rfl

@[simp] theorem gotOut_result (b : Block) (r : Word) : (b.gotOut r).result = b.result := rfl

@[simp] theorem gotOut_lastOut (b : Block) (r : Word) : (b.gotOut r).lastOut = b.lastOut := rfl

@[simp] theorem gotOut_lastPwm (b : Block) (r : Word) : (b.gotOut r).lastPwm = b.lastPwm := rfl

@[simp] theorem gotOut_snapVmean (b : Block) (r : Word) : (b.gotOut r).snapVmean = b.snapVmean := rfl

@[simp] theorem gotOut_snapVsd (b : Block) (r : Word) : (b.gotOut r).snapVsd = b.snapVsd := rfl

@[simp] theorem gotOut_snapDmean (b : Block) (r : Word) : (b.gotOut r).snapDmean = b.snapDmean := rfl

@[simp] theorem gotOut_snapDsd (b : Block) (r : Word) : (b.gotOut r).snapDsd = b.snapDsd := rfl

@[simp] theorem gotOut_snapTick (b : Block) (r : Word) : (b.gotOut r).snapTick = b.snapTick := rfl

@[simp] theorem gotOut_vw (b : Block) (r : Word) : (b.gotOut r).vw = b.vw := rfl

@[simp] theorem gotOut_dw (b : Block) (r : Word) : (b.gotOut r).dw = b.dw := rfl

@[simp] theorem gotOut_lPwm (b : Block) (r : Word) : (b.gotOut r).lPwm = b.lPwm := rfl

@[simp] theorem gotOut_lVel (b : Block) (r : Word) : (b.gotOut r).lVel = b.lVel := rfl

@[simp] theorem gotOut_lDuty (b : Block) (r : Word) : (b.gotOut r).lDuty = b.lDuty := rfl

@[simp] theorem gotOut_heldTarget (b : Block) (r : Word) : (b.gotOut r).heldTarget = b.heldTarget := rfl

@[simp] theorem gotOut_phase (b : Block) (r : Word) : (b.gotOut r).phase = .pwmwr := rfl

@[simp] theorem gotOut_lOut (b : Block) (r : Word) : (b.gotOut r).lOut = r := rfl

/-! ## PWMWR (R515) -/

@[simp] theorem pwmSent_tickEn (b : Block) : (b.pwmSent).tickEn = b.tickEn := by
  unfold Block.pwmSent; dsimp only; split <;> simp

@[simp] theorem pwmSent_spPending (b : Block) : (b.pwmSent).spPending = b.spPending := by
  unfold Block.pwmSent; dsimp only; split <;> simp

@[simp] theorem pwmSent_irqEn (b : Block) : (b.pwmSent).irqEn = b.irqEn := by
  unfold Block.pwmSent; dsimp only; split <;> simp

@[simp] theorem pwmSent_cfg (b : Block) : (b.pwmSent).cfg = b.cfg := by
  unfold Block.pwmSent; dsimp only; split <;> simp

@[simp] theorem pwmSent_period (b : Block) : (b.pwmSent).period = b.period := by
  unfold Block.pwmSent; dsimp only; split <;> simp

@[simp] theorem pwmSent_timer (b : Block) : (b.pwmSent).timer = b.timer := by
  unfold Block.pwmSent; dsimp only; split <;> simp

@[simp] theorem pwmSent_tickCount (b : Block) : (b.pwmSent).tickCount = b.tickCount := by
  unfold Block.pwmSent; dsimp only; split <;> simp

@[simp] theorem pwmSent_missed (b : Block) : (b.pwmSent).missed = b.missed := by
  unfold Block.pwmSent; dsimp only; split <;> simp

@[simp] theorem pwmSent_setpoint (b : Block) : (b.pwmSent).setpoint = b.setpoint := by
  unfold Block.pwmSent; dsimp only; split <;> simp

@[simp] theorem pwmSent_data (b : Block) : (b.pwmSent).data = b.data := by
  unfold Block.pwmSent; dsimp only; split <;> simp

@[simp] theorem pwmSent_result (b : Block) : (b.pwmSent).result = b.result := by
  unfold Block.pwmSent; dsimp only; split <;> simp

@[simp] theorem pwmSent_lastOut (b : Block) : (b.pwmSent).lastOut = b.lastOut := by
  unfold Block.pwmSent; dsimp only; split <;> simp

@[simp] theorem pwmSent_lastPwm (b : Block) : (b.pwmSent).lastPwm = b.lastPwm := by
  unfold Block.pwmSent; dsimp only; split <;> simp

@[simp] theorem pwmSent_snapVmean (b : Block) : (b.pwmSent).snapVmean = b.snapVmean := by
  unfold Block.pwmSent; dsimp only; split <;> simp

@[simp] theorem pwmSent_snapVsd (b : Block) : (b.pwmSent).snapVsd = b.snapVsd := by
  unfold Block.pwmSent; dsimp only; split <;> simp

@[simp] theorem pwmSent_snapDmean (b : Block) : (b.pwmSent).snapDmean = b.snapDmean := by
  unfold Block.pwmSent; dsimp only; split <;> simp

@[simp] theorem pwmSent_snapDsd (b : Block) : (b.pwmSent).snapDsd = b.snapDsd := by
  unfold Block.pwmSent; dsimp only; split <;> simp

@[simp] theorem pwmSent_snapTick (b : Block) : (b.pwmSent).snapTick = b.snapTick := by
  unfold Block.pwmSent; dsimp only; split <;> simp

@[simp] theorem pwmSent_vw (b : Block) : (b.pwmSent).vw = b.vw := by
  unfold Block.pwmSent; dsimp only; split <;> simp

@[simp] theorem pwmSent_dw (b : Block) : (b.pwmSent).dw = b.dw := by
  unfold Block.pwmSent; dsimp only; split <;> simp

@[simp] theorem pwmSent_lOut (b : Block) : (b.pwmSent).lOut = b.lOut := by
  unfold Block.pwmSent; dsimp only; split <;> simp

@[simp] theorem pwmSent_lVel (b : Block) : (b.pwmSent).lVel = b.lVel := by
  unfold Block.pwmSent; dsimp only; split <;> simp

@[simp] theorem pwmSent_lDuty (b : Block) : (b.pwmSent).lDuty = b.lDuty := by
  unfold Block.pwmSent; dsimp only; split <;> simp

@[simp] theorem pwmSent_heldTarget (b : Block) : (b.pwmSent).heldTarget = b.heldTarget := by
  unfold Block.pwmSent; dsimp only; split <;> simp

@[simp] theorem pwmSent_phase (b : Block) : (b.pwmSent).phase = .getvel := by
  unfold Block.pwmSent; dsimp only; split <;> simp

@[simp] theorem pwmSent_lPwm (b : Block) : (b.pwmSent).lPwm = saturate b.lOut b.cfg.pwmMax := by
  unfold Block.pwmSent; dsimp only; split <;> simp

/-! ## GETVEL (R516) -/

@[simp] theorem gotVel_tickEn (b : Block) (r : Word) : (b.gotVel r).tickEn = b.tickEn := by
  unfold Block.gotVel; split <;> rfl

@[simp] theorem gotVel_spPending (b : Block) (r : Word) : (b.gotVel r).spPending = b.spPending := by
  unfold Block.gotVel; split <;> rfl

@[simp] theorem gotVel_sticky (b : Block) (r : Word) : (b.gotVel r).sticky = b.sticky := by
  unfold Block.gotVel; split <;> rfl

@[simp] theorem gotVel_errCause (b : Block) (r : Word) : (b.gotVel r).errCause = b.errCause := by
  unfold Block.gotVel; split <;> rfl

@[simp] theorem gotVel_errInfo (b : Block) (r : Word) : (b.gotVel r).errInfo = b.errInfo := by
  unfold Block.gotVel; split <;> rfl

@[simp] theorem gotVel_irqEn (b : Block) (r : Word) : (b.gotVel r).irqEn = b.irqEn := by
  unfold Block.gotVel; split <;> rfl

@[simp] theorem gotVel_cfg (b : Block) (r : Word) : (b.gotVel r).cfg = b.cfg := by
  unfold Block.gotVel; split <;> rfl

@[simp] theorem gotVel_period (b : Block) (r : Word) : (b.gotVel r).period = b.period := by
  unfold Block.gotVel; split <;> rfl

@[simp] theorem gotVel_timer (b : Block) (r : Word) : (b.gotVel r).timer = b.timer := by
  unfold Block.gotVel; split <;> rfl

@[simp] theorem gotVel_tickCount (b : Block) (r : Word) : (b.gotVel r).tickCount = b.tickCount := by
  unfold Block.gotVel; split <;> rfl

@[simp] theorem gotVel_missed (b : Block) (r : Word) : (b.gotVel r).missed = b.missed := by
  unfold Block.gotVel; split <;> rfl

@[simp] theorem gotVel_setpoint (b : Block) (r : Word) : (b.gotVel r).setpoint = b.setpoint := by
  unfold Block.gotVel; split <;> rfl

@[simp] theorem gotVel_data (b : Block) (r : Word) : (b.gotVel r).data = b.data := by
  unfold Block.gotVel; split <;> rfl

@[simp] theorem gotVel_result (b : Block) (r : Word) : (b.gotVel r).result = b.result := by
  unfold Block.gotVel; split <;> rfl

@[simp] theorem gotVel_lastOut (b : Block) (r : Word) : (b.gotVel r).lastOut = b.lastOut := by
  unfold Block.gotVel; split <;> rfl

@[simp] theorem gotVel_lastPwm (b : Block) (r : Word) : (b.gotVel r).lastPwm = b.lastPwm := by
  unfold Block.gotVel; split <;> rfl

@[simp] theorem gotVel_snapVmean (b : Block) (r : Word) : (b.gotVel r).snapVmean = b.snapVmean := by
  unfold Block.gotVel; split <;> rfl

@[simp] theorem gotVel_snapVsd (b : Block) (r : Word) : (b.gotVel r).snapVsd = b.snapVsd := by
  unfold Block.gotVel; split <;> rfl

@[simp] theorem gotVel_snapDmean (b : Block) (r : Word) : (b.gotVel r).snapDmean = b.snapDmean := by
  unfold Block.gotVel; split <;> rfl

@[simp] theorem gotVel_snapDsd (b : Block) (r : Word) : (b.gotVel r).snapDsd = b.snapDsd := by
  unfold Block.gotVel; split <;> rfl

@[simp] theorem gotVel_snapTick (b : Block) (r : Word) : (b.gotVel r).snapTick = b.snapTick := by
  unfold Block.gotVel; split <;> rfl

@[simp] theorem gotVel_vw (b : Block) (r : Word) : (b.gotVel r).vw = b.vw := by
  unfold Block.gotVel; split <;> rfl

@[simp] theorem gotVel_dw (b : Block) (r : Word) : (b.gotVel r).dw = b.dw := by
  unfold Block.gotVel; split <;> rfl

@[simp] theorem gotVel_lOut (b : Block) (r : Word) : (b.gotVel r).lOut = b.lOut := by
  unfold Block.gotVel; split <;> rfl

@[simp] theorem gotVel_lPwm (b : Block) (r : Word) : (b.gotVel r).lPwm = b.lPwm := by
  unfold Block.gotVel; split <;> rfl

@[simp] theorem gotVel_heldTarget (b : Block) (r : Word) : (b.gotVel r).heldTarget = b.heldTarget := by
  unfold Block.gotVel; split <;> rfl

@[simp] theorem gotVel_phase (b : Block) (r : Word) : (b.gotVel r).phase = (if b.cfg.dutySrc then .commit else .getraw) := by
  unfold Block.gotVel; split <;> simp_all

@[simp] theorem gotVel_lVel (b : Block) (r : Word) : (b.gotVel r).lVel = r := by
  unfold Block.gotVel; split <;> rfl

@[simp] theorem gotVel_lDuty (b : Block) (r : Word) : (b.gotVel r).lDuty = (if b.cfg.dutySrc then F32.ofInt (b.lPwm.zeroExtend 32) else b.lDuty) := by
  unfold Block.gotVel; split <;> simp_all

/-! ## GETRAW (R517) -/

@[simp] theorem gotRaw_tickEn (b : Block) (r : Word) : (b.gotRaw r).tickEn = b.tickEn := rfl

@[simp] theorem gotRaw_spPending (b : Block) (r : Word) : (b.gotRaw r).spPending = b.spPending := rfl

@[simp] theorem gotRaw_sticky (b : Block) (r : Word) : (b.gotRaw r).sticky = b.sticky := rfl

@[simp] theorem gotRaw_errCause (b : Block) (r : Word) : (b.gotRaw r).errCause = b.errCause := rfl

@[simp] theorem gotRaw_errInfo (b : Block) (r : Word) : (b.gotRaw r).errInfo = b.errInfo := rfl

@[simp] theorem gotRaw_irqEn (b : Block) (r : Word) : (b.gotRaw r).irqEn = b.irqEn := rfl

@[simp] theorem gotRaw_cfg (b : Block) (r : Word) : (b.gotRaw r).cfg = b.cfg := rfl

@[simp] theorem gotRaw_period (b : Block) (r : Word) : (b.gotRaw r).period = b.period := rfl

@[simp] theorem gotRaw_timer (b : Block) (r : Word) : (b.gotRaw r).timer = b.timer := rfl

@[simp] theorem gotRaw_tickCount (b : Block) (r : Word) : (b.gotRaw r).tickCount = b.tickCount := rfl

@[simp] theorem gotRaw_missed (b : Block) (r : Word) : (b.gotRaw r).missed = b.missed := rfl

@[simp] theorem gotRaw_setpoint (b : Block) (r : Word) : (b.gotRaw r).setpoint = b.setpoint := rfl

@[simp] theorem gotRaw_data (b : Block) (r : Word) : (b.gotRaw r).data = b.data := rfl

@[simp] theorem gotRaw_result (b : Block) (r : Word) : (b.gotRaw r).result = b.result := rfl

@[simp] theorem gotRaw_lastOut (b : Block) (r : Word) : (b.gotRaw r).lastOut = b.lastOut := rfl

@[simp] theorem gotRaw_lastPwm (b : Block) (r : Word) : (b.gotRaw r).lastPwm = b.lastPwm := rfl

@[simp] theorem gotRaw_snapVmean (b : Block) (r : Word) : (b.gotRaw r).snapVmean = b.snapVmean := rfl

@[simp] theorem gotRaw_snapVsd (b : Block) (r : Word) : (b.gotRaw r).snapVsd = b.snapVsd := rfl

@[simp] theorem gotRaw_snapDmean (b : Block) (r : Word) : (b.gotRaw r).snapDmean = b.snapDmean := rfl

@[simp] theorem gotRaw_snapDsd (b : Block) (r : Word) : (b.gotRaw r).snapDsd = b.snapDsd := rfl

@[simp] theorem gotRaw_snapTick (b : Block) (r : Word) : (b.gotRaw r).snapTick = b.snapTick := rfl

@[simp] theorem gotRaw_vw (b : Block) (r : Word) : (b.gotRaw r).vw = b.vw := rfl

@[simp] theorem gotRaw_dw (b : Block) (r : Word) : (b.gotRaw r).dw = b.dw := rfl

@[simp] theorem gotRaw_lOut (b : Block) (r : Word) : (b.gotRaw r).lOut = b.lOut := rfl

@[simp] theorem gotRaw_lPwm (b : Block) (r : Word) : (b.gotRaw r).lPwm = b.lPwm := rfl

@[simp] theorem gotRaw_lVel (b : Block) (r : Word) : (b.gotRaw r).lVel = b.lVel := rfl

@[simp] theorem gotRaw_heldTarget (b : Block) (r : Word) : (b.gotRaw r).heldTarget = b.heldTarget := rfl

@[simp] theorem gotRaw_phase (b : Block) (r : Word) : (b.gotRaw r).phase = .commit := rfl

@[simp] theorem gotRaw_lDuty (b : Block) (r : Word) : (b.gotRaw r).lDuty = r := rfl

/-! ## COMMIT (R518) -/

@[simp] theorem commit_tickEn (b : Block) : (b.commit).tickEn = b.tickEn := rfl

@[simp] theorem commit_spPending (b : Block) : (b.commit).spPending = b.spPending := rfl

@[simp] theorem commit_errCause (b : Block) : (b.commit).errCause = b.errCause := rfl

@[simp] theorem commit_errInfo (b : Block) : (b.commit).errInfo = b.errInfo := rfl

@[simp] theorem commit_irqEn (b : Block) : (b.commit).irqEn = b.irqEn := rfl

@[simp] theorem commit_cfg (b : Block) : (b.commit).cfg = b.cfg := rfl

@[simp] theorem commit_period (b : Block) : (b.commit).period = b.period := rfl

@[simp] theorem commit_timer (b : Block) : (b.commit).timer = b.timer := rfl

@[simp] theorem commit_missed (b : Block) : (b.commit).missed = b.missed := rfl

@[simp] theorem commit_setpoint (b : Block) : (b.commit).setpoint = b.setpoint := rfl

@[simp] theorem commit_data (b : Block) : (b.commit).data = b.data := rfl

@[simp] theorem commit_result (b : Block) : (b.commit).result = b.result := rfl

@[simp] theorem commit_snapVmean (b : Block) : (b.commit).snapVmean = b.snapVmean := rfl

@[simp] theorem commit_snapVsd (b : Block) : (b.commit).snapVsd = b.snapVsd := rfl

@[simp] theorem commit_snapDmean (b : Block) : (b.commit).snapDmean = b.snapDmean := rfl

@[simp] theorem commit_snapDsd (b : Block) : (b.commit).snapDsd = b.snapDsd := rfl

@[simp] theorem commit_snapTick (b : Block) : (b.commit).snapTick = b.snapTick := rfl

@[simp] theorem commit_lOut (b : Block) : (b.commit).lOut = b.lOut := rfl

@[simp] theorem commit_lPwm (b : Block) : (b.commit).lPwm = b.lPwm := rfl

@[simp] theorem commit_lVel (b : Block) : (b.commit).lVel = b.lVel := rfl

@[simp] theorem commit_lDuty (b : Block) : (b.commit).lDuty = b.lDuty := rfl

@[simp] theorem commit_heldTarget (b : Block) : (b.commit).heldTarget = b.heldTarget := rfl

@[simp] theorem commit_vw (b : Block) : (b.commit).vw = b.vw.push b.lVel := rfl

@[simp] theorem commit_dw (b : Block) : (b.commit).dw = b.dw.push b.lDuty := rfl

@[simp] theorem commit_lastOut (b : Block) : (b.commit).lastOut = b.lOut := rfl

@[simp] theorem commit_lastPwm (b : Block) : (b.commit).lastPwm = b.lPwm.zeroExtend 32 := rfl

@[simp] theorem commit_tickCount (b : Block) : (b.commit).tickCount = b.tickCount + 1#32 := rfl

@[simp] theorem commit_sticky (b : Block) : (b.commit).sticky = { b.sticky with tickDone := true } := rfl

@[simp] theorem commit_phase (b : Block) : (b.commit).phase = .idle := rfl

/-! ## The state around the block -/

@[simp] theorem answered_blk (s : State) (b : Block) (r : BusResp) : (s.answered b r).blk = b := rfl

@[simp] theorem answered_agenda (s : State) (b : Block) (r : BusResp) : (s.answered b r).env.agenda = s.env.agenda := rfl

@[simp] theorem answered_resp (s : State) (b : Block) (r : BusResp) : (s.answered b r).env.resp = r := rfl

@[simp] theorem popped_blk (s : State) (rest : List Event) : (s.popped rest).blk = s.blk := rfl

@[simp] theorem popped_agenda (s : State) (rest : List Event) : (s.popped rest).env.agenda = rest := rfl

@[simp] theorem popped_timed (s : State) (rest : List Event) : (s.popped rest).env.timed = s.env.timed := rfl

@[simp] theorem popped_engLog (s : State) (rest : List Event) : (s.popped rest).env.engLog = s.env.engLog := rfl

@[simp] theorem popped_pwmLog (s : State) (rest : List Event) : (s.popped rest).env.pwmLog = s.env.pwmLog := rfl

end Sys2Proof.Machine
end

