-- ==== Sys2Proof/Laws/Ops.lean ====
section
/-! SUPPORT. What each shared operation answers, by its conditions; the step by the agent whose turn it is; and a run by its
first step. -/

namespace Sys2Proof.Machine

/-! ## Commands and triggers -/

/-- A command runs while the block is stopped (R600). -/
theorem ifStopped_stopped {b : Block} {c : Word} {f : Block → Block} (h : b.tickEn = false ∧ b.phase = .idle) :
    b.ifStopped c f = f b := by
  simp [Block.ifStopped, Block.busy, h]

/-- With the timer enabled, the ownership check comes first (R600). -/
theorem ifStopped_enabled {b : Block} {c : Word} {f : Block → Block} (h : b.tickEn = true) :
    b.ifStopped c f = b.raise .cmdOwnership c := by
  simp [Block.ifStopped, h]

/-- With the timer stopped and a tick in progress, the command is rejected as busy (R600). -/
theorem ifStopped_busy {b : Block} {c : Word} {f : Block → Block} (h : b.tickEn = false ∧ b.phase ≠ .idle) :
    b.ifStopped c f = b.raise .cmdBusy c := by
  simp [Block.ifStopped, Block.busy, h]

/-- An event while idle starts a tick (R502). -/
theorem timerEvent_idle {b : Block} (h : b.phase = .idle) : b.timerEvent = b.startTick := by
  simp [Block.timerEvent, Block.busy, h]

/-- An event during a tick is dropped (R503). -/
theorem timerEvent_busy {b : Block} (h : b.phase ≠ .idle) :
    b.timerEvent = { b with missed := saturatingIncr b.missed }.raise .tickOverrun b.tickCount := by
  simp [Block.timerEvent, Block.busy, h]

/-- What raising an error writes: the sticky bits, ERR_CAUSE and ERR_INFO, nothing else (R810). -/
theorem raise_writes (b : Block) (e : Cause) (info : Word) :
    b.raise e info =
      { b with sticky := b.sticky.mark e, errCause := (b.raise e info).errCause, errInfo := (b.raise e info).errInfo } := by
  unfold Block.raise; split <;> rfl

/-- A captured error is kept (R810). -/
theorem raise_captured {b : Block} {e : Cause} {info : Word} (h : b.errCause ≠ .noError) :
    (b.raise e info).errCause = b.errCause ∧ (b.raise e info).errInfo = b.errInfo := by
  unfold Block.raise; rw [if_neg h]; exact ⟨rfl, rfl⟩

/-! ## The setpoint -/

/-- Nothing held: SETTGT sends SETPOINT (R511). -/
theorem target_of_none {b : Block} (h : b.heldTarget = none) : b.target = b.setpoint := by
  simp [Block.target, h]

/-- A word held: SETTGT sends that (R331, R524). -/
theorem target_of_some {b : Block} {v : Word} (h : b.heldTarget = some v) : b.target = v := by
  simp [Block.target, h]

/-- A write of SETPOINT leaves the engine request as it stands, in every phase (R331, R524). -/
@[simp] theorem setpointWritten_engineRequest (b : Block) (w : Word) :
    (b.setpointWritten w).engineRequest = b.engineRequest := by
  unfold Block.engineRequest
  rw [setpointWritten_phase]
  cases hp : b.phase <;> simp [Block.target, hp]

/-! ## The ports -/

/-- The clamp gives the only 16-bit value R515 allows. -/
theorem saturate_unique (x : Word) (max val : BitVec 16) (h1 : x.toInt < 0 → val = 0#16)
    (h2 : x.toInt > max.toNat → val = max)
    (h3 : 0 ≤ x.toInt → x.toInt ≤ max.toNat → (val.toNat : Int) = x.toInt) : saturate x max = val := by
  unfold saturate
  split
  · rw [h1 ‹_›]
  split
  · rw [h2 ‹_›]
  have hv := h3 (by omega) (by omega)
  apply BitVec.eq_of_toNat_eq
  rw [BitVec.extractLsb'_toNat]
  have hx := BitVec.toInt_eq_toNat_cond x
  have := x.isLt
  have := val.isLt
  have := max.isLt
  split at hx <;> omega

/-- The clamped value never exceeds the maximum (R522). -/
theorem saturate_le (x : Word) (max : BitVec 16) : (saturate x max).toNat ≤ max.toNat := by
  unfold saturate
  split
  · simp
  split
  · exact Nat.le_refl _
  rw [BitVec.extractLsb'_toNat]
  have hx := BitVec.toInt_eq_toNat_cond x
  have := x.isLt
  have := max.isLt
  split at hx <;> omega

/-- The phase and the data of an engine request the block asserts (R507). -/
theorem engineRequest_phase {b : Block} {op : BitVec 3} {d : Word} (h : b.engineRequest = some (engWord op d)) :
    (b.phase = .settgt ∧ op = 2#3 ∧ d = b.target) ∨ (b.phase = .refresh ∧ op = 0#3 ∧ d = 0#32) ∨
    (b.phase = .compute ∧ op = 1#3 ∧ d = 0#32) ∨ (b.phase = .getout ∧ op = 4#3 ∧ d = 0#32) ∨
    (b.phase = .getvel ∧ op = 3#3 ∧ d = 0#32) ∨ (b.phase = .getraw ∧ op = 5#3 ∧ d = 0#32) := by
  unfold Block.engineRequest at h
  split at h
  all_goals simp only [Option.some.injEq, reduceCtorEq] at h
  all_goals
    replace h := engWord_inj h
    obtain ⟨rfl, rfl⟩ := h
    simp_all

/-! ## The step, by agent -/

/-- HOST's turn. -/
theorem step_host {s : State} {a : Access} {rest : List Event} (h : s.env.agenda = .host a :: rest) :
    step s = (hostAction a (s.popped rest)).outcome := by
  rw [step_eq_outcome]; unfold nextAction; simp only [h]; rfl

/-- SEQ's turn. -/
theorem step_seq {s : State} {reply : Word} {rest : List Event} (h : s.env.agenda = .seq reply :: rest) :
    step s = (seqAction reply (s.popped rest)).outcome := by
  rw [step_eq_outcome]; unfold nextAction; simp only [h]; rfl

/-- TIMER's turn: a clock edge, a timer event, or nothing. -/
theorem step_timer {s : State} {rest : List Event} (h : s.env.agenda = .timer :: rest) :
    step s = .next
      { blk := if s.env.timed then s.blk.clockEdge else if s.blk.tickEn then s.blk.timerEvent else s.blk
        env := { s.env with agenda := rest } } := by
  have h' : step s = .next (s.popped rest).timerStep := by
    rw [step_eq_outcome]; unfold nextAction; simp only [h]; rfl
  rw [h']
  unfold State.timerStep
  cases h1 : s.env.timed <;> cases h2 : s.blk.tickEn <;> simp [State.popped, h1, h2]

/-! ## Runs -/

/-- A run of any machine, by its first step. -/
theorem run_next_of_step (M : Host.Core) {s t : M.State} {k : Nat} (h : M.step s = .next t) :
    M.run (k + 1) s = M.run k t := by
  rw [Host.Core.run, h]

/-- A run of this machine, by its first step. -/
theorem core_run_succ {s t : State} {k : Nat} (h : step s = .next t) :
    Sys2Proof.core.run (k + 1) s = Sys2Proof.core.run k t :=
  run_next_of_step Sys2Proof.core h

end Sys2Proof.Machine
end

