-- ==== Sys2Proof/Laws/PerInstr.lean ====
section
/-! SUPPORT. EncodesRow: the word of every instruction matches its own row of spec/opcode_table.json under that row's mask,
one lemma per constructor. -/

namespace Sys2Proof.Laws

/-- The mask and the match of an instruction's row, copied from spec/opcode_table.json. -/
def tableRow : Instr → Nat × Nat
  | .nop => (0xFFFFFFFF, 0x00000000)
  | .push _ => (0xFFFFFFEF, 0x00000001)
  | .mean _ => (0xFFFFFFEF, 0x00000002)
  | .stddev _ => (0xFFFFFFEF, 0x00000003)
  | .snap => (0xFFFFFFFF, 0x00000004)
  | .clear _ => (0xFFFFFFEF, 0x00000005)
  | .forceTick => (0xFFFFFFFF, 0x00000006)
  | .rdId => (0x1FFF, 0x0000)
  | .rdCtrl => (0x1FFF, 0x0004)
  | .rdStatus => (0x1FFF, 0x0008)
  | .rdErrCause => (0x1FFF, 0x000C)
  | .rdErrInfo => (0x1FFF, 0x0010)
  | .rdIrqEn => (0x1FFF, 0x0014)
  | .rdCfg => (0x1FFF, 0x0018)
  | .rdPeriod => (0x1FFF, 0x001C)
  | .rdTimer => (0x1FFF, 0x0020)
  | .rdTickCount => (0x1FFF, 0x0024)
  | .rdMissed => (0x1FFF, 0x0028)
  | .rdSetpoint => (0x1FFF, 0x002C)
  | .rdData => (0x1FFF, 0x0030)
  | .rdCmd => (0x1FFF, 0x0034)
  | .rdResult => (0x1FFF, 0x0038)
  | .rdLastOut => (0x1FFF, 0x003C)
  | .rdLastPwm => (0x1FFF, 0x0040)
  | .rdSnapVmean => (0x1FFF, 0x0044)
  | .rdSnapVsd => (0x1FFF, 0x0048)
  | .rdSnapDmean => (0x1FFF, 0x004C)
  | .rdSnapDsd => (0x1FFF, 0x0050)
  | .rdSnapTick => (0x1FFF, 0x0054)
  | .rdVw0 => (0x1FFF, 0x0060)
  | .rdVw1 => (0x1FFF, 0x0064)
  | .rdVw2 => (0x1FFF, 0x0068)
  | .rdVw3 => (0x1FFF, 0x006C)
  | .rdVw4 => (0x1FFF, 0x0070)
  | .rdDw0 => (0x1FFF, 0x0080)
  | .rdDw1 => (0x1FFF, 0x0084)
  | .rdDw2 => (0x1FFF, 0x0088)
  | .rdDw3 => (0x1FFF, 0x008C)
  | .rdDw4 => (0x1FFF, 0x0090)
  | .wrIdBuserr _ _ => (0x1FFF, 0x1000)
  | .wrCtrl _ _ => (0x1FFF, 0x1004)
  | .wrStatus _ _ => (0x1FFF, 0x1008)
  | .wrErrCause _ _ => (0x1FFF, 0x100C)
  | .wrErrInfoBuserr _ _ => (0x1FFF, 0x1010)
  | .wrIrqEn _ _ => (0x1FFF, 0x1014)
  | .wrCfg _ _ => (0x1FFF, 0x1018)
  | .wrPeriod _ _ => (0x1FFF, 0x101C)
  | .wrTimerBuserr _ _ => (0x1FFF, 0x1020)
  | .wrTickCountBuserr _ _ => (0x1FFF, 0x1024)
  | .wrMissed _ _ => (0x1FFF, 0x1028)
  | .wrSetpoint _ _ => (0x1FFF, 0x102C)
  | .wrData _ _ => (0x1FFF, 0x1030)
  | .wrCmd _ _ => (0x1FFF, 0x1034)
  | .wrResultBuserr _ _ => (0x1FFF, 0x1038)
  | .wrLastOutBuserr _ _ => (0x1FFF, 0x103C)
  | .wrLastPwmBuserr _ _ => (0x1FFF, 0x1040)
  | .wrSnapVmeanBuserr _ _ => (0x1FFF, 0x1044)
  | .wrSnapVsdBuserr _ _ => (0x1FFF, 0x1048)
  | .wrSnapDmeanBuserr _ _ => (0x1FFF, 0x104C)
  | .wrSnapDsdBuserr _ _ => (0x1FFF, 0x1050)
  | .wrSnapTickBuserr _ _ => (0x1FFF, 0x1054)
  | .wrVw0Buserr _ _ => (0x1FFF, 0x1060)
  | .wrVw1Buserr _ _ => (0x1FFF, 0x1064)
  | .wrVw2Buserr _ _ => (0x1FFF, 0x1068)
  | .wrVw3Buserr _ _ => (0x1FFF, 0x106C)
  | .wrVw4Buserr _ _ => (0x1FFF, 0x1070)
  | .wrDw0Buserr _ _ => (0x1FFF, 0x1080)
  | .wrDw1Buserr _ _ => (0x1FFF, 0x1084)
  | .wrDw2Buserr _ _ => (0x1FFF, 0x1088)
  | .wrDw3Buserr _ _ => (0x1FFF, 0x108C)
  | .wrDw4Buserr _ _ => (0x1FFF, 0x1090)
  | .eRefresh _ => (0x700000000, 0x000000000)
  | .eCompute _ => (0x700000000, 0x100000000)
  | .eSetTarget _ => (0x700000000, 0x200000000)
  | .eGetVel _ => (0x700000000, 0x300000000)
  | .eGetOut _ => (0x700000000, 0x400000000)
  | .eGetRaw _ => (0x700000000, 0x500000000)
  | .pwmWrite _ _ => (0x000000, 0x000000)

/-- The BUS13 word of an access (R301). -/
def busWord : Access → BitVec 13
  | .read off => bus13Read off
  | .write off _ _ => bus13Write off

/-- A port word under a mask, compared with a match, in the width of its port. -/
def matchesRow (p : PortWord) (row : Nat × Nat) : Prop :=
  match p with
  | .host a => busWord a &&& BitVec.ofNat 13 row.1 = BitVec.ofNat 13 row.2
  | .cmd c => c &&& BitVec.ofNat 32 row.1 = BitVec.ofNat 32 row.2
  | .eng w => w &&& BitVec.ofNat 35 row.1 = BitVec.ofNat 35 row.2
  | .pwm w => w &&& BitVec.ofNat 24 row.1 = BitVec.ofNat 24 row.2

/-- The EOP mask keeps the operation of an engine word and nothing else. -/
theorem engWord_and_mask (op : BitVec 3) (d : Word) : engWord op d &&& (7#3 ++ 0#32) = op ++ 0#32 := by
  unfold engWord
  apply BitVec.eq_of_getLsbD_eq
  intro k hk
  have h7 : ∀ j : Nat, j < 3 → (7#3).getLsbD j = true := by decide
  simp only [BitVec.getLsbD_and, BitVec.getLsbD_append]
  split
  · simp
  · rw [h7 _ (by omega), Bool.and_true]

/-- An engine word matches the row of its operation. -/
theorem eng_row (op : BitVec 3) (d : Word) (m : Nat) (h : op ++ 0#32 = BitVec.ofNat 35 m) :
    matchesRow (.eng (engWord op d)) (0x700000000, m) :=
  Eq.trans (congrArg (engWord op d &&& ·) (of_decide_eq_true rfl : BitVec.ofNat 35 0x700000000 = 7#3 ++ 0#32))
    ((engWord_and_mask op d).trans h)

/-- Every PWM word matches the row of PWM_WRITE. -/
theorem pwm_row (w : BitVec 24) : matchesRow (.pwm w) (0x000000, 0x000000) := by simp [matchesRow]

/-- A write matches a row by its offset alone. -/
theorem write_row (off : Offset) (strb : Strobe) (wdata : Word) (row : Nat × Nat)
    (h : bus13Write off &&& BitVec.ofNat 13 row.1 = BitVec.ofNat 13 row.2) :
    matchesRow (.host (.write off strb wdata)) row := h

end Sys2Proof.Laws

namespace Sys2Proof.Laws.EncodesRow

/-- The word of `i` matches its row of the opcode table. -/
def Statement (i : Instr) : Prop := matchesRow (encode i) (tableRow i)

theorem nop : Statement .nop := rfl

theorem push (w : Win) : Statement (.push w) := by cases w <;> rfl

theorem mean (w : Win) : Statement (.mean w) := by cases w <;> rfl

theorem stddev (w : Win) : Statement (.stddev w) := by cases w <;> rfl

theorem snap : Statement .snap := rfl

theorem clear (w : Win) : Statement (.clear w) := by cases w <;> rfl

theorem forceTick : Statement .forceTick := rfl

theorem rdId : Statement .rdId := rfl

theorem rdCtrl : Statement .rdCtrl := rfl

theorem rdStatus : Statement .rdStatus := rfl

theorem rdErrCause : Statement .rdErrCause := rfl

theorem rdErrInfo : Statement .rdErrInfo := rfl

theorem rdIrqEn : Statement .rdIrqEn := rfl

theorem rdCfg : Statement .rdCfg := rfl

theorem rdPeriod : Statement .rdPeriod := rfl

theorem rdTimer : Statement .rdTimer := rfl

theorem rdTickCount : Statement .rdTickCount := rfl

theorem rdMissed : Statement .rdMissed := rfl

theorem rdSetpoint : Statement .rdSetpoint := rfl

theorem rdData : Statement .rdData := rfl

theorem rdCmd : Statement .rdCmd := rfl

theorem rdResult : Statement .rdResult := rfl

theorem rdLastOut : Statement .rdLastOut := rfl

theorem rdLastPwm : Statement .rdLastPwm := rfl

theorem rdSnapVmean : Statement .rdSnapVmean := rfl

theorem rdSnapVsd : Statement .rdSnapVsd := rfl

theorem rdSnapDmean : Statement .rdSnapDmean := rfl

theorem rdSnapDsd : Statement .rdSnapDsd := rfl

theorem rdSnapTick : Statement .rdSnapTick := rfl

theorem rdVw0 : Statement .rdVw0 := rfl

theorem rdVw1 : Statement .rdVw1 := rfl

theorem rdVw2 : Statement .rdVw2 := rfl

theorem rdVw3 : Statement .rdVw3 := rfl

theorem rdVw4 : Statement .rdVw4 := rfl

theorem rdDw0 : Statement .rdDw0 := rfl

theorem rdDw1 : Statement .rdDw1 := rfl

theorem rdDw2 : Statement .rdDw2 := rfl

theorem rdDw3 : Statement .rdDw3 := rfl

theorem rdDw4 : Statement .rdDw4 := rfl

theorem wrIdBuserr (strb : Strobe) (wdata : Word) : Statement (.wrIdBuserr strb wdata) := write_row _ _ _ (0x1FFF, 0x1000) (of_decide_eq_true rfl)

theorem wrCtrl (strb : Strobe) (wdata : Word) : Statement (.wrCtrl strb wdata) := write_row _ _ _ (0x1FFF, 0x1004) (of_decide_eq_true rfl)

theorem wrStatus (strb : Strobe) (wdata : Word) : Statement (.wrStatus strb wdata) := write_row _ _ _ (0x1FFF, 0x1008) (of_decide_eq_true rfl)

theorem wrErrCause (strb : Strobe) (wdata : Word) : Statement (.wrErrCause strb wdata) := write_row _ _ _ (0x1FFF, 0x100C) (of_decide_eq_true rfl)

theorem wrErrInfoBuserr (strb : Strobe) (wdata : Word) : Statement (.wrErrInfoBuserr strb wdata) := write_row _ _ _ (0x1FFF, 0x1010) (of_decide_eq_true rfl)

theorem wrIrqEn (strb : Strobe) (wdata : Word) : Statement (.wrIrqEn strb wdata) := write_row _ _ _ (0x1FFF, 0x1014) (of_decide_eq_true rfl)

theorem wrCfg (strb : Strobe) (wdata : Word) : Statement (.wrCfg strb wdata) := write_row _ _ _ (0x1FFF, 0x1018) (of_decide_eq_true rfl)

theorem wrPeriod (strb : Strobe) (wdata : Word) : Statement (.wrPeriod strb wdata) := write_row _ _ _ (0x1FFF, 0x101C) (of_decide_eq_true rfl)

theorem wrTimerBuserr (strb : Strobe) (wdata : Word) : Statement (.wrTimerBuserr strb wdata) := write_row _ _ _ (0x1FFF, 0x1020) (of_decide_eq_true rfl)

theorem wrTickCountBuserr (strb : Strobe) (wdata : Word) : Statement (.wrTickCountBuserr strb wdata) := write_row _ _ _ (0x1FFF, 0x1024) (of_decide_eq_true rfl)

theorem wrMissed (strb : Strobe) (wdata : Word) : Statement (.wrMissed strb wdata) := write_row _ _ _ (0x1FFF, 0x1028) (of_decide_eq_true rfl)

theorem wrSetpoint (strb : Strobe) (wdata : Word) : Statement (.wrSetpoint strb wdata) := write_row _ _ _ (0x1FFF, 0x102C) (of_decide_eq_true rfl)

theorem wrData (strb : Strobe) (wdata : Word) : Statement (.wrData strb wdata) := write_row _ _ _ (0x1FFF, 0x1030) (of_decide_eq_true rfl)

theorem wrCmd (strb : Strobe) (wdata : Word) : Statement (.wrCmd strb wdata) := write_row _ _ _ (0x1FFF, 0x1034) (of_decide_eq_true rfl)

theorem wrResultBuserr (strb : Strobe) (wdata : Word) : Statement (.wrResultBuserr strb wdata) := write_row _ _ _ (0x1FFF, 0x1038) (of_decide_eq_true rfl)

theorem wrLastOutBuserr (strb : Strobe) (wdata : Word) : Statement (.wrLastOutBuserr strb wdata) := write_row _ _ _ (0x1FFF, 0x103C) (of_decide_eq_true rfl)

theorem wrLastPwmBuserr (strb : Strobe) (wdata : Word) : Statement (.wrLastPwmBuserr strb wdata) := write_row _ _ _ (0x1FFF, 0x1040) (of_decide_eq_true rfl)

theorem wrSnapVmeanBuserr (strb : Strobe) (wdata : Word) : Statement (.wrSnapVmeanBuserr strb wdata) := write_row _ _ _ (0x1FFF, 0x1044) (of_decide_eq_true rfl)

theorem wrSnapVsdBuserr (strb : Strobe) (wdata : Word) : Statement (.wrSnapVsdBuserr strb wdata) := write_row _ _ _ (0x1FFF, 0x1048) (of_decide_eq_true rfl)

theorem wrSnapDmeanBuserr (strb : Strobe) (wdata : Word) : Statement (.wrSnapDmeanBuserr strb wdata) := write_row _ _ _ (0x1FFF, 0x104C) (of_decide_eq_true rfl)

theorem wrSnapDsdBuserr (strb : Strobe) (wdata : Word) : Statement (.wrSnapDsdBuserr strb wdata) := write_row _ _ _ (0x1FFF, 0x1050) (of_decide_eq_true rfl)

theorem wrSnapTickBuserr (strb : Strobe) (wdata : Word) : Statement (.wrSnapTickBuserr strb wdata) := write_row _ _ _ (0x1FFF, 0x1054) (of_decide_eq_true rfl)

theorem wrVw0Buserr (strb : Strobe) (wdata : Word) : Statement (.wrVw0Buserr strb wdata) := write_row _ _ _ (0x1FFF, 0x1060) (of_decide_eq_true rfl)

theorem wrVw1Buserr (strb : Strobe) (wdata : Word) : Statement (.wrVw1Buserr strb wdata) := write_row _ _ _ (0x1FFF, 0x1064) (of_decide_eq_true rfl)

theorem wrVw2Buserr (strb : Strobe) (wdata : Word) : Statement (.wrVw2Buserr strb wdata) := write_row _ _ _ (0x1FFF, 0x1068) (of_decide_eq_true rfl)

theorem wrVw3Buserr (strb : Strobe) (wdata : Word) : Statement (.wrVw3Buserr strb wdata) := write_row _ _ _ (0x1FFF, 0x106C) (of_decide_eq_true rfl)

theorem wrVw4Buserr (strb : Strobe) (wdata : Word) : Statement (.wrVw4Buserr strb wdata) := write_row _ _ _ (0x1FFF, 0x1070) (of_decide_eq_true rfl)

theorem wrDw0Buserr (strb : Strobe) (wdata : Word) : Statement (.wrDw0Buserr strb wdata) := write_row _ _ _ (0x1FFF, 0x1080) (of_decide_eq_true rfl)

theorem wrDw1Buserr (strb : Strobe) (wdata : Word) : Statement (.wrDw1Buserr strb wdata) := write_row _ _ _ (0x1FFF, 0x1084) (of_decide_eq_true rfl)

theorem wrDw2Buserr (strb : Strobe) (wdata : Word) : Statement (.wrDw2Buserr strb wdata) := write_row _ _ _ (0x1FFF, 0x1088) (of_decide_eq_true rfl)

theorem wrDw3Buserr (strb : Strobe) (wdata : Word) : Statement (.wrDw3Buserr strb wdata) := write_row _ _ _ (0x1FFF, 0x108C) (of_decide_eq_true rfl)

theorem wrDw4Buserr (strb : Strobe) (wdata : Word) : Statement (.wrDw4Buserr strb wdata) := write_row _ _ _ (0x1FFF, 0x1090) (of_decide_eq_true rfl)

theorem eRefresh (ewdata : Word) : Statement (.eRefresh ewdata) := eng_row _ _ _ (of_decide_eq_true rfl)

theorem eCompute (ewdata : Word) : Statement (.eCompute ewdata) := eng_row _ _ _ (of_decide_eq_true rfl)

theorem eSetTarget (ewdata : Word) : Statement (.eSetTarget ewdata) := eng_row _ _ _ (of_decide_eq_true rfl)

theorem eGetVel (ewdata : Word) : Statement (.eGetVel ewdata) := eng_row _ _ _ (of_decide_eq_true rfl)

theorem eGetOut (ewdata : Word) : Statement (.eGetOut ewdata) := eng_row _ _ _ (of_decide_eq_true rfl)

theorem eGetRaw (ewdata : Word) : Statement (.eGetRaw ewdata) := eng_row _ _ _ (of_decide_eq_true rfl)

theorem pwmWrite (pch : BitVec 8) (pval : BitVec 16) : Statement (.pwmWrite pch pval) := pwm_row _

end Sys2Proof.Laws.EncodesRow
end

