-- ==== Sys2Proof/Laws/Registers.lean ====
section
/-! SUPPORT. The bits of STATUS and IRQ_EN, the information word of an access, the offsets of the register window, and the
frame of a host byte read from the frame of the registers. -/

namespace Sys2Proof.Machine

/-! ## STATUS and IRQ_EN, bit by bit -/

/-- The bits of STATUS below the phase code. -/
theorem status_low (b : Block) :
    b.statusWord.getLsbD 0 = b.busy ∧ b.statusWord.getLsbD 1 = b.spPending ∧
    b.statusWord.getLsbD 2 = b.sticky.tickDone ∧ b.statusWord.getLsbD 3 = b.sticky.overrun ∧
    b.statusWord.getLsbD 4 = b.sticky.cmdErr ∧ b.statusWord.getLsbD 5 = b.sticky.cfgErr ∧
    b.statusWord.getLsbD 6 = b.sticky.busErr ∧ b.statusWord.getLsbD 7 = b.sticky.pwmSat := by
  unfold Block.statusWord
  refine ⟨?_, ?_, ?_, ?_, ?_, ?_, ?_, ?_⟩ <;> (simp only [BitVec.getLsbD_append, BitVec.getLsbD_ofBool]; simp)

/-- From bit 8 up, STATUS is the phase code and zeros. -/
theorem status_high (b : Block) (k : Nat) (h : 8 ≤ k) :
    b.statusWord.getLsbD k = (decide (k < 12) && b.phase.code.getLsbD (k - 8)) := by
  unfold Block.statusWord
  simp only [BitVec.getLsbD_append, show ¬ k < 1 by omega, show ¬ k - 1 < 1 by omega, show ¬ k - 1 - 1 < 1 by omega,
    show ¬ k - 1 - 1 - 1 < 1 by omega, show ¬ k - 1 - 1 - 1 - 1 < 1 by omega,
    show ¬ k - 1 - 1 - 1 - 1 - 1 < 1 by omega, show ¬ k - 1 - 1 - 1 - 1 - 1 - 1 < 1 by omega,
    show ¬ k - 1 - 1 - 1 - 1 - 1 - 1 - 1 < 1 by omega, if_false,
    show k - 1 - 1 - 1 - 1 - 1 - 1 - 1 - 1 = k - 8 by omega]
  by_cases h12 : k < 12
  · simp [h12, show k - 8 < 4 by omega]
  · simp [h12, show ¬ k - 8 < 4 by omega]

/-- The event bits of IRQ_EN. -/
theorem toWord_bits (e : EventBits) :
    e.toWord.getLsbD 2 = e.tickDone ∧ e.toWord.getLsbD 3 = e.overrun ∧ e.toWord.getLsbD 4 = e.cmdErr ∧
    e.toWord.getLsbD 5 = e.cfgErr ∧ e.toWord.getLsbD 6 = e.busErr ∧ e.toWord.getLsbD 7 = e.pwmSat := by
  unfold EventBits.toWord
  refine ⟨?_, ?_, ?_, ?_, ?_, ?_⟩ <;> (simp only [BitVec.getLsbD_append, BitVec.getLsbD_ofBool]; simp)

/-- The reserved bits of IRQ_EN read 0. -/
theorem toWord_reserved (e : EventBits) (k : Nat) (h : k < 2 ∨ 8 ≤ k) : e.toWord.getLsbD k = false := by
  unfold EventBits.toWord
  rcases h with h | h
  · simp only [BitVec.getLsbD_append]; simp [h]
  · simp only [BitVec.getLsbD_append, show ¬ k < 2 by omega, show ¬ k - 2 < 1 by omega, show ¬ k - 2 - 1 < 1 by omega,
      show ¬ k - 2 - 1 - 1 < 1 by omega, show ¬ k - 2 - 1 - 1 - 1 < 1 by omega,
      show ¬ k - 2 - 1 - 1 - 1 - 1 < 1 by omega, show ¬ k - 2 - 1 - 1 - 1 - 1 - 1 < 1 by omega, if_false]
    simp

/-- A 16-bit value zero-extended is 16 zeros before it. -/
theorem zeroExtend_16 (x : BitVec 16) : x.zeroExtend 32 = 0#16 ++ x := by
  apply BitVec.eq_of_getLsbD_eq
  intro k hk
  simp only [BitVec.getLsbD_append, BitVec.getLsbD_setWidth]
  by_cases h : k < 16
  · simp [h, hk]
  · simp [h, show x.getLsbD k = false from BitVec.getLsbD_of_ge _ _ (by omega)]

/-! ## Accesses -/

/-- The information word of a read (R801). -/
theorem accessInfo_read (off : Offset) : accessInfo (.read off) = 0#20 ++ off := by
  unfold accessInfo bus13Read
  apply BitVec.eq_of_getLsbD_eq
  intro k hk
  simp only [BitVec.getLsbD_append]
  by_cases h1 : k < 12
  · simp [h1, show k < 13 by omega]
  · simp [h1]

/-- The information word of a write (R801). -/
theorem accessInfo_write (off : Offset) (strb : Strobe) (wdata : Word) :
    accessInfo (.write off strb wdata) = 0#12 ++ strb ++ 0#3 ++ 1#1 ++ off := by
  unfold accessInfo bus13Write
  apply BitVec.eq_of_getLsbD_eq
  intro k hk
  simp only [BitVec.getLsbD_append]
  by_cases h1 : k < 12
  · simp [h1, show k < 13 by omega]
  · by_cases h2 : k < 13
    · simp [h1, h2, show k - 12 < 1 by omega]
    · simp [h1, h2, show ¬ k - 12 < 1 by omega, show k - 12 - 1 = k - 13 by omega]

/-- The decoder's alignment test is divisibility by 4 (R203). -/
theorem aligned_iff (off : Offset) : off.extractLsb' 0 2 = 0#2 ↔ off.toNat % 4 = 0 := by
  rw [← BitVec.toNat_inj, BitVec.extractLsb'_toNat]
  simp

/-- A read and a write of one offset decode to a register, or neither does. -/
theorem decodeWriteAt_iff (off : Offset) (strb : Strobe) (wdata : Word) :
    (∃ i, decodeWriteAt off strb wdata = .ok i) ↔ ∃ i, decodeReadAt off = .ok i := by
  constructor
  · rintro ⟨i, h⟩
    unfold decodeWriteAt at h
    split at h <;> first | (cases h; done) | exact ⟨_, rfl⟩
  · rintro ⟨i, h⟩
    unfold decodeReadAt at h
    split at h <;> first | (cases h; done) | exact ⟨_, rfl⟩

set_option maxRecDepth 20000 in
/-- The aligned offsets the decoder knows are the mapped offsets of R204. -/
theorem decodeReadAt_iff (off : Offset) (h : off.toNat % 4 = 0) :
    (∃ i, decodeReadAt off = .ok i) ↔ mappedOffset off := by
  constructor
  · rintro ⟨i, hi⟩
    unfold decodeReadAt at hi
    split at hi <;> first | (cases hi; done) | (unfold mappedOffset; decide)
  · rintro ⟨-, hm⟩
    obtain ⟨k, hk, he⟩ : ∃ k, k < 37 ∧ off.toNat = 4 * k := ⟨off.toNat / 4, by omega, by omega⟩
    have ho : off = BitVec.ofNat 12 (4 * k) := by rw [← he]; simp
    subst ho
    have hk' : k ≤ 21 ∨ (24 ≤ k ∧ k ≤ 28) ∨ 32 ≤ k := by omega
    have key : ∀ k : Nat, k < 37 → (k ≤ 21 ∨ (24 ≤ k ∧ k ≤ 28) ∨ 32 ≤ k) →
        (match decodeReadAt (BitVec.ofNat 12 (4 * k)) with | .ok _ => true | .error _ => false) = true := by decide
    have hd := key k hk hk'
    cases h' : decodeReadAt (BitVec.ofNat 12 (4 * k)) with
    | ok i => exact ⟨i, rfl⟩
    | error e => rw [h'] at hd; cases hd

/-! ## Host bytes -/

/-- The base of the register window is a multiple of 4096 (R201). -/
theorem base_aligned : Config.pBase % 4096 = 0 := by unfold Config.pBase; omega

/-- Whether an offset has a register does not depend on the block. -/
theorem regAt_none {b c : Block} {off : Offset} (h : b.regAt off = none) : c.regAt off = none := by
  unfold Block.regAt at h ⊢
  split at h <;> first | (cases h; done) | skip
  rfl

/-- Two blocks whose registers agree at every offset but those named have the same bytes but for those lanes. -/
theorem sameBytesBut_of_regAt {b c : Block} (offs : List Offset)
    (h : ∀ off : Offset, off ∉ offs → c.regAt off = b.regAt off) : b.sameBytesBut c offs := by
  intro addr ha
  unfold Block.hostByte
  split
  · rfl
  next hr =>
  rw [not_or] at hr
  dsimp only
  have hand : ∀ x : Offset, (x &&& 0xFFC#12).toNat = 4 * (x.toNat / 4) := by decide +kernel
  rw [h]
  intro hm
  have hl := ha _ hm
  unfold laneAddr at hl
  rw [hand] at hl
  have hb := base_aligned
  have ho : (hostOffset addr).toNat = addr % 4096 := by simp [hostOffset]
  simp at *
  omega

end Sys2Proof.Machine
end

