-- ==== Sys2Proof/Tests/Slice0.lean ====
section
/-! SUPPORT. The model's own tests: one step each on a small state. Every expected value is from spec/95_test_vectors.md, by the
number named, or written out from the encodings of spec/30_encoding.md. After them, a witness for the hypotheses of every
statement of Obligations.lean that has any. -/

namespace Sys2Proof.Tests

open Sys2Proof.Machine

/-! ## Small states -/

/-- The reset state with the block changed. -/
def withBlock (f : Block → Block) : State := { State.reset with blk := f Block.reset }

/-- The reset state with the block changed and an agenda. -/
def withAgenda (f : Block → Block) (evs : List Event) : State :=
  { blk := f Block.reset, env := { State.reset.env with agenda := evs } }

/-- What the block is after an outcome, if it is a next state. -/
def blockAfter : Host.Outcome State Fault Refusal → Option Block
  | .next s => some s.blk
  | .fault _ => none
  | .refused _ => none

/-- What the host was answered, if the outcome is a next state. -/
def answer : Host.Outcome State Fault Refusal → Option BusResp
  | .next s => some s.env.resp
  | .fault _ => none
  | .refused _ => none

/-- A read's value. -/
def readValue (o : Host.Outcome State Fault Refusal) : Option Word :=
  match answer o with
  | some (.done v) => v
  | some (.error v) => v
  | some .silent => none
  | none => none

/-- Five equal slots. -/
def all5 (w : Word) : Window := { s0 := w, s1 := w, s2 := w, s3 := w, s4 := w }

/-- [1, 2, 3, 4, 5], the window of WIN-2. -/
def win2 : Window := { s0 := 0x3F800000#32, s1 := 0x40000000#32, s2 := 0x40400000#32, s3 := 0x40800000#32, s4 := 0x40A00000#32 }

/-- [7, 0, 0, 0, 0], the window of WIN-13. -/
def win13 : Window := { s0 := 0x40E00000#32, s1 := 0#32, s2 := 0#32, s3 := 0#32, s4 := 0#32 }

/-! ## Well-formedness (R330) -/

theorem test_wellformed_ewdata : (Instr.eRefresh 1#32).wellFormed = false ∧ (Instr.eCompute 1#32).wellFormed = false ∧
    (Instr.eGetVel 0x80000000#32).wellFormed = false ∧ (Instr.eGetOut 1#32).wellFormed = false ∧
    (Instr.eGetRaw 1#32).wellFormed = false ∧ (Instr.eSetTarget 1#32).wellFormed = true := by decide

theorem test_decode_refuses : decodeTableWord 32 0x00000010 = none ∧ decodeTableWord 32 0x00000007 = none ∧
    decodeTableWord 32 0x00000021 = none ∧ decodeTableWord 16 0x0058 = none ∧ decodeTableWord 16 0x0045 = none ∧
    decodeTableWord 40 0x600000000 = none ∧ decodeTableWord 40 0x000000001 = none := by decide

/-! ## Words written out from the encodings (R301, R320, R330, R340) -/

theorem test_decode_commands : decodeTableWord 32 0b00000 = some .nop ∧ decodeTableWord 32 0b10001 = some (.push .dw) ∧
    decodeTableWord 32 0b00010 = some (.mean .vw) ∧ decodeTableWord 32 0b10011 = some (.stddev .dw) ∧
    decodeTableWord 32 0b00100 = some .snap ∧ decodeTableWord 32 0b00101 = some (.clear .vw) ∧
    decodeTableWord 32 0b00110 = some .forceTick := by decide

theorem test_decode_reads_low : decodeTableWord 16 0x0000 = some .rdId ∧ decodeTableWord 16 0x0004 = some .rdCtrl ∧
    decodeTableWord 16 0x0008 = some .rdStatus ∧ decodeTableWord 16 0x000C = some .rdErrCause ∧
    decodeTableWord 16 0x0010 = some .rdErrInfo ∧ decodeTableWord 16 0x0014 = some .rdIrqEn ∧
    decodeTableWord 16 0x0018 = some .rdCfg ∧ decodeTableWord 16 0x001C = some .rdPeriod ∧
    decodeTableWord 16 0x0020 = some .rdTimer ∧ decodeTableWord 16 0x0024 = some .rdTickCount ∧
    decodeTableWord 16 0x0028 = some .rdMissed ∧ decodeTableWord 16 0x002C = some .rdSetpoint ∧
    decodeTableWord 16 0x0030 = some .rdData ∧ decodeTableWord 16 0x0034 = some .rdCmd ∧
    decodeTableWord 16 0x0038 = some .rdResult ∧ decodeTableWord 16 0x003C = some .rdLastOut := by decide

theorem test_decode_reads_high : decodeTableWord 16 0x0040 = some .rdLastPwm ∧ decodeTableWord 16 0x0044 = some .rdSnapVmean ∧
    decodeTableWord 16 0x0048 = some .rdSnapVsd ∧ decodeTableWord 16 0x004C = some .rdSnapDmean ∧
    decodeTableWord 16 0x0050 = some .rdSnapDsd ∧ decodeTableWord 16 0x0054 = some .rdSnapTick ∧
    decodeTableWord 16 0x0060 = some .rdVw0 ∧ decodeTableWord 16 0x0070 = some .rdVw4 ∧
    decodeTableWord 16 0x0080 = some .rdDw0 ∧ decodeTableWord 16 0x0090 = some .rdDw4 := by decide

theorem test_decode_writes : decodeTableWord 16 0x1004 = some (.wrCtrl 0#4 0#32) ∧
    decodeTableWord 16 0x1008 = some (.wrStatus 0#4 0#32) ∧ decodeTableWord 16 0x100C = some (.wrErrCause 0#4 0#32) ∧
    decodeTableWord 16 0x1014 = some (.wrIrqEn 0#4 0#32) ∧ decodeTableWord 16 0x1018 = some (.wrCfg 0#4 0#32) ∧
    decodeTableWord 16 0x101C = some (.wrPeriod 0#4 0#32) ∧ decodeTableWord 16 0x1028 = some (.wrMissed 0#4 0#32) ∧
    decodeTableWord 16 0x102C = some (.wrSetpoint 0#4 0#32) ∧ decodeTableWord 16 0x1030 = some (.wrData 0#4 0#32) ∧
    decodeTableWord 16 0x1034 = some (.wrCmd 0#4 0#32) ∧ decodeTableWord 16 0x1000 = some (.wrIdBuserr 0#4 0#32) ∧
    decodeTableWord 16 0x1040 = some (.wrLastPwmBuserr 0#4 0#32) := by decide

theorem test_decode_ports : decodeTableWord 40 0x000000000 = some (.eRefresh 0#32) ∧
    decodeTableWord 40 0x100000000 = some (.eCompute 0#32) ∧ decodeTableWord 40 0x241400000 = some (.eSetTarget 0x41400000#32) ∧
    decodeTableWord 40 0x300000000 = some (.eGetVel 0#32) ∧ decodeTableWord 40 0x400000000 = some (.eGetOut 0#32) ∧
    decodeTableWord 40 0x500000000 = some (.eGetRaw 0#32) ∧
    decodeTableWord 24 0x030258 = some (.pwmWrite 3#8 0x0258#16) := by decide

/-! ## The window datapath (2.1) -/

theorem test_window_win2 : win2.sum = 0x41700000#32 ∧ win2.mean = 0x40400000#32 ∧ win2.variance = 0x40000000#32 ∧
    win2.stddev = 0x3FB504F3#32 := by decide +kernel

theorem test_window_win4 : (all5 0x406D5337#32).mean = 0x406D5336#32 ∧ (all5 0x406D5337#32).variance = 0x35800000#32 ∧
    (all5 0x406D5337#32).stddev = 0x3A800000#32 := by decide +kernel

theorem test_window_win6 : (all5 0x60AD78EC#32).mean = 0x60AD78EC#32 ∧ (all5 0x60AD78EC#32).stddev = 0x7FC00000#32 := by
  decide +kernel

theorem test_window_win7 : (all5 0x5E800000#32).mean = 0x5E800000#32 ∧ (all5 0x5E800000#32).sumSquares = 0x7EA00000#32 ∧
    (all5 0x5E800000#32).stddev = 0x00000000#32 := by decide +kernel

theorem test_window_win9_win10 : (all5 0x80000000#32).mean = 0x00000000#32 ∧ (all5 0x00000001#32).sum = 0x00000005#32 ∧
    (all5 0x00000001#32).mean = 0x00000001#32 ∧ (all5 0x00000001#32).stddev = 0x00000000#32 := by decide +kernel

theorem test_window_win11 : (all5 0x7F61B1E6#32).mean = 0x7F800000#32 ∧ (all5 0x7F61B1E6#32).stddev = 0x7FC00000#32 := by
  decide +kernel

theorem test_window_win14 : (all5 0x3F333333#32).variance = 0xB3000000#32 ∧ (all5 0x3F333333#32).stddev = 0x00000000#32 := by
  decide +kernel

theorem test_window_win16_win17 :
    Window.mean { s0 := 0x7F800000#32, s1 := 0xFF800000#32, s2 := 0#32, s3 := 0#32, s4 := 0#32 } = 0x7FC00000#32 ∧
    Window.stddev { s0 := 0x3F800000#32, s1 := 0x40000000#32, s2 := 0x7FC00001#32, s3 := 0x80000000#32, s4 := 0x3F800000#32 } =
      0x7FC00000#32 := by decide +kernel

theorem test_window_win19_order :
    Window.mean { s0 := 0x4B800000#32, s1 := 0x3F800000#32, s2 := 0x3F800000#32, s3 := 0#32, s4 := 0#32 } = 0x4A4CCCCD#32 := by
  decide +kernel

theorem test_duty_conversion : F32.ofInt 0x258#32 = 0x44160000#32 ∧ F32.ofInt 0xFFFF#32 = 0x477FFF00#32 ∧
    F32.ofInt 0#32 = 0x00000000#32 ∧ F32.ofInt 1#32 = 0x3F800000#32 := by decide +kernel

/-! ## Commands (2.2) -/

theorem test_cmd3_push : (blockAfter (exec (.push .dw) (withBlock fun b => { b with data := 0x3F000000#32 }))).map
      (fun b => (b.dw, b.vw)) =
    some ({ s0 := 0#32, s1 := 0#32, s2 := 0#32, s3 := 0#32, s4 := 0x3F000000#32 }, Window.zero) := by decide

theorem test_cmd4_mean : (blockAfter (exec (.mean .vw) (withBlock fun b => { b with vw := win2 }))).map (·.result) =
    some 0x40400000#32 := by decide +kernel

theorem test_cmd5_stddev : (blockAfter (exec (.stddev .dw) (withBlock fun b => { b with dw := win13 }))).map (·.result) =
    some 0x40333333#32 := by decide +kernel

theorem test_cmd7_snap : (blockAfter (exec .snap (withBlock fun b => { b with vw := win2, dw := win13, tickCount := 3#32 }))).map
      (fun b => [b.snapVmean, b.snapVsd, b.snapDmean, b.snapDsd, b.snapTick]) =
    some [0x40400000#32, 0x3FB504F3#32, 0x3FB33333#32, 0x40333333#32, 3#32] := by decide +kernel

theorem test_cmd8_clear : (blockAfter (exec (.clear .vw) (withBlock fun b => { b with vw := win2 }))).map (·.vw) =
    some Window.zero := by decide

theorem test_cmd9_force_tick : (blockAfter (exec .forceTick State.reset)).map (·.statusWord) = some 0x00000103#32 := by decide

theorem test_cmd10_force_tick : (blockAfter (exec .forceTick (withBlock fun b => { b with spPending := false }))).map
    (·.statusWord) = some 0x00000201#32 := by decide

theorem test_cmd16_illegal : (blockAfter (exec (.wrCmd fullStrobe 0x00000021#32) State.reset)).map
    (fun b => (b.sticky.cmdErr, b.errCause, b.errInfo)) = some (true, .cmdIllegal, 0x00000021#32) := by decide

theorem test_cmd21_ownership_first : (blockAfter (exec (.push .vw) (withBlock fun b =>
      { b with tickEn := true, phase := .getout }))).map (fun b => (b.errCause, b.errInfo)) =
    some (.cmdOwnership, 0x00000001#32) := by decide

theorem test_cmd22_busy : (blockAfter (exec (.clear .vw) (withBlock fun b => { b with phase := .refresh }))).map
    (fun b => (b.errCause, b.errInfo)) = some (.cmdBusy, 0x00000005#32) := by decide

theorem test_cmd26_first_kept : (blockAfter (exec (.wrCmd fullStrobe 0x00000007#32) (withBlock fun b =>
    { b with errCause := .busError }))).map (fun b => (b.sticky.cmdErr, b.errCause)) = some (true, .busError) := by decide

/-! ## Register reads (2.3) -/

theorem test_reg1_to_reg6 : readValue (exec .rdId State.reset) = some 0x53570007#32 ∧
    readValue (exec .rdCtrl State.reset) = some 0#32 ∧ readValue (exec .rdStatus State.reset) = some 0x00000002#32 ∧
    readValue (exec .rdErrCause State.reset) = some 0#32 ∧ readValue (exec .rdErrInfo State.reset) = some 0#32 ∧
    readValue (exec .rdIrqEn State.reset) = some 0#32 ∧ readValue (exec .rdCfg State.reset) = some 0xFFFF0000#32 := by decide

theorem test_reg7 : readValue (exec .rdPeriod State.reset) = some Config.pPeriodRst := by rfl

theorem test_reg8_to_reg10 : readValue (exec .rdTimer State.reset) = some 0#32 ∧
    readValue (exec .rdTickCount State.reset) = some 0#32 ∧ readValue (exec .rdMissed State.reset) = some 0#32 ∧
    readValue (exec .rdSetpoint State.reset) = some 0#32 ∧ readValue (exec .rdData State.reset) = some 0#32 ∧
    readValue (exec .rdCmd State.reset) = some 0#32 ∧ readValue (exec .rdResult State.reset) = some 0#32 ∧
    readValue (exec .rdLastOut State.reset) = some 0#32 ∧ readValue (exec .rdLastPwm State.reset) = some 0#32 ∧
    readValue (exec .rdSnapTick State.reset) = some 0#32 := by decide

theorem test_read_fields : readValue (exec .rdVw4 (withBlock fun b => { b with vw := win2 })) = some 0x40A00000#32 ∧
    readValue (exec .rdDw0 (withBlock fun b => { b with dw := win13 })) = some 0x40E00000#32 ∧
    readValue (exec .rdCfg (withBlock fun b => { b with cfg := { pwmCh := 3#8, dutySrc := true, pwmMax := 1000#16 } })) =
      some 0x03E80103#32 := by decide

/-! ## Register writes (2.3) -/

theorem test_reg20_ctrl : (blockAfter (exec (.wrCtrl fullStrobe 0xFFFFFFFF#32) (withBlock fun b => { b with timer := 7#32 }))).map
    (fun b => (b.ctrlWord, b.timer)) = some (1#32, 0#32) := by decide

theorem test_reg21_ctrl : (blockAfter (exec (.wrCtrl fullStrobe 1#32) (withBlock fun b =>
    { b with tickEn := true, timer := 7#32 }))).map (fun b => (b.ctrlWord, b.timer)) = some (1#32, 7#32) := by decide

theorem test_reg22_irq_en : (blockAfter (exec (.wrIrqEn fullStrobe 0xFFFFFFFF#32) State.reset)).map (·.irqEn.toWord) =
    some 0x000000FC#32 := by decide

theorem test_reg24_cfg : (blockAfter (exec (.wrCfg fullStrobe 0x03E80103#32) State.reset)).map (·.cfg) =
    some { pwmCh := 3#8, dutySrc := true, pwmMax := 1000#16 } := by decide

theorem test_reg25_cfg_locked : (blockAfter (exec (.wrCfg fullStrobe 0#32) (withBlock fun b => { b with tickEn := true }))).map
    (fun b => (b.cfg.toWord, b.sticky.cfgErr, b.errCause, b.errInfo)) =
    some (0xFFFF0000#32, true, .cfgLocked, 0x000F1018#32) := by decide

theorem test_reg26_period_locked : (blockAfter (exec (.wrPeriod fullStrobe 5#32) (withBlock fun b =>
    { b with phase := .getvel, period := 9#32 }))).map (fun b => (b.period, b.errCause, b.errInfo)) =
    some (9#32, .cfgLocked, 0x000F101C#32) := by decide

theorem test_reg28_status : (blockAfter (exec (.wrStatus fullStrobe 0x000000FC#32) (withBlock fun b =>
    { b with sticky := EventBits.ofWord 0xFE#32 }))).map (·.statusWord) = some 0x00000002#32 := by decide

theorem test_reg30_err_cause : (blockAfter (exec (.wrErrCause fullStrobe 0x12345678#32) (withBlock fun b =>
    { b with errCause := .busError, errInfo := 9#32, sticky := EventBits.ofWord 0x40#32 }))).map
    (fun b => (b.errCause, b.errInfo, b.statusWord)) = some (.noError, 0#32, 0x00000042#32) := by decide

theorem test_reg31_missed : (blockAfter (exec (.wrMissed fullStrobe 0x12345678#32) (withBlock fun b =>
    { b with missed := 9#32, sticky := EventBits.ofWord 8#32 }))).map (fun b => (b.missed, b.sticky.overrun)) =
    some (0#32, true) := by decide

theorem test_reg32_setpoint : (blockAfter (exec (.wrSetpoint fullStrobe 0x41400000#32) (withBlock fun b =>
    { b with spPending := false }))).map (fun b => (b.setpoint, b.spPending)) = some (0x41400000#32, true) := by decide

theorem test_reg33_data : (blockAfter (exec (.wrData fullStrobe 0x7FC00001#32) State.reset)).map (·.data) =
    some 0x7FC00001#32 := by decide

/-! ## Bus errors (2.3) -/

/-- The answer, the cause and the information after one host access from reset. -/
def busOutcome (a : Access) : Option (BusResp × Cause × Word) :=
  match step (withAgenda (fun b => b) [.host a]) with
  | .next s => some (s.env.resp, s.blk.errCause, s.blk.errInfo)
  | .fault _ => none
  | .refused _ => none

theorem test_reg40_reg42_reads : busOutcome (.read 0x058#12) = some (.error (some 0#32), .busError, 0x00000058#32) ∧
    busOutcome (.read 0xFFC#12) = some (.error (some 0#32), .busError, 0x00000FFC#32) ∧
    busOutcome (.read 0x045#12) = some (.error (some 0#32), .busError, 0x00000045#32) := by decide

theorem test_reg43_reg50_writes :
    busOutcome (.write 0x003#12 0xF#4 1#32) = some (.error none, .busError, 0x000F1003#32) ∧
    busOutcome (.write 0x030#12 0x3#4 0x12345678#32) = some (.error none, .busError, 0x00031030#32) ∧
    busOutcome (.write 0x000#12 0xF#4 0#32) = some (.error none, .busError, 0x000F1000#32) ∧
    busOutcome (.write 0x020#12 0xF#4 0#32) = some (.error none, .busError, 0x000F1020#32) ∧
    busOutcome (.write 0x034#12 0x1#4 1#32) = some (.error none, .busError, 0x00011034#32) ∧
    busOutcome (.write 0x05C#12 0x0#4 0#32) = some (.error none, .busError, 0x0000105C#32) := by decide

theorem test_reg49_partial_cfg : (blockAfter (exec (.wrCfg 0x7#4 0#32) (withBlock fun b => { b with tickEn := true }))).map
    (fun b => (b.errCause, b.errInfo)) = some (.busError, 0x00071018#32) := by decide

/-! ## The timer (2.4) -/

theorem test_tck1_count : (withBlock fun b => { b with tickEn := true, period := 3#32, timer := 1#32 }).blk.clockEdge.timer =
    2#32 := by decide

theorem test_tck1_event : ((withBlock fun b => { b with tickEn := true, period := 3#32, timer := 2#32 }).blk.clockEdge.timer,
    (withBlock fun b => { b with tickEn := true, period := 3#32, timer := 2#32 }).blk.clockEdge.phase) = (0#32, .settgt) := by
  decide

theorem test_tck3_period0 : ((withBlock fun b =>
    { b with tickEn := true, period := 0#32, timer := 0xFFFFFFFF#32, spPending := false }).blk.clockEdge.phase) = .refresh := by
  decide

theorem test_tck7_overrun : let b := (withBlock fun b =>
      { b with tickEn := true, phase := .getout, missed := 4#32, tickCount := 9#32 }).blk.timerEvent
    (b.missed, b.sticky.overrun, b.errCause, b.errInfo, b.phase) = (5#32, true, .tickOverrun, 9#32, .getout) := by decide

theorem test_tck8_saturates : ((withBlock fun b =>
    { b with tickEn := true, phase := .getout, missed := 0xFFFFFFFF#32 }).blk.timerEvent.missed) = 0xFFFFFFFF#32 := by decide

/-! ## The tick (2.5) -/

/-- The block after SEQ's step in a state, acknowledged with `reply`. -/
def afterSeq (reply : Word) (f : Block → Block) : Option Block := blockAfter (step (withAgenda f [.seq reply]))

theorem test_tck13_saturate : saturate 0x00010000#32 0xFFFF#16 = 0xFFFF#16 ∧ saturates 0x00010000#32 0xFFFF#16 = true ∧
    saturate 0x80000000#32 0xFFFF#16 = 0#16 ∧ saturate 0x7FFFFFFF#32 0xFFFF#16 = 0xFFFF#16 ∧
    saturate 0x3E8#32 0x3E8#16 = 0x3E8#16 ∧ saturates 0x3E8#32 0x3E8#16 = false ∧ saturates 1#32 0#16 = true := by decide

theorem test_tck15_pwm : (afterSeq 0#32 fun b => { b with phase := .pwmwr, lOut := 0xFFFFFFFF#32 }).map
    (fun b => (b.lPwm, b.sticky.pwmSat, b.errCause, b.errInfo, b.phase)) =
    some (0#16, true, .pwmSaturated, 0xFFFFFFFF#32, .getvel) := by decide

theorem test_pwm_word : (match step (withAgenda (fun b =>
      { b with phase := .pwmwr, lOut := 0x258#32, cfg := { pwmCh := 3#8, dutySrc := true, pwmMax := 1000#16 } }) [.seq 0#32]) with
    | .next s => s.env.pwmLog
    | .fault _ => []
    | .refused _ => []) = [0x030258#24] := by decide

theorem test_settgt : (afterSeq 5#32 fun b => { b with phase := .settgt }).map (fun b => (b.spPending, b.phase)) =
    some (false, .refresh) := by decide

/-- The engine log, SETPOINT, SP_PENDING and the phase after a write of SETPOINT in SETTGT and SEQ's step (R524, C7). -/
def writeThenSend (old new : Word) : Option (List (BitVec 35) × Word × Bool × Phase) :=
  match Sys2Proof.core.run 2 (withAgenda (fun b => { b with phase := .settgt, setpoint := old })
      [.host (.write 0x02C#12 fullStrobe new), .seq 0#32]) with
  | .next s => some (s.env.engLog, s.blk.setpoint, s.blk.spPending, s.blk.phase)
  | .fault _ => none
  | .refused _ => none

theorem test_setpoint_written_in_settgt_waits : writeThenSend 0x3F800000#32 0x41400000#32 =
    some ([0x23F800000#35], 0x41400000#32, true, .refresh) := by decide

theorem test_refresh_compute : (afterSeq 5#32 fun b => { b with phase := .refresh }).map (·.phase) = some .compute ∧
    (afterSeq 5#32 fun b => { b with phase := .compute }).map (·.phase) = some .getout := by decide

theorem test_getout : (afterSeq 0x11170#32 fun b => { b with phase := .getout }).map (fun b => (b.lOut, b.phase)) =
    some (0x11170#32, .pwmwr) := by decide

theorem test_tck32_getvel : (afterSeq 0x406CCCCD#32 fun b =>
      { b with phase := .getvel, lPwm := 0x258#16, cfg := { pwmCh := 3#8, dutySrc := true, pwmMax := 1000#16 } }).map
    (fun b => (b.lVel, b.lDuty, b.phase)) = some (0x406CCCCD#32, 0x44160000#32, .commit) := by decide +kernel

theorem test_getraw : (afterSeq 0x3F000000#32 fun b => { b with phase := .getraw }).map (fun b => (b.lDuty, b.phase)) =
    some (0x3F000000#32, .commit) := by decide

theorem test_tck50_tck52_commit : (afterSeq 0#32 fun b =>
      { b with phase := .commit, tickCount := 0xFFFFFFFF#32, vw := win2, lVel := 0x41400000#32, lOut := 0xFFFFFFFF#32 }).map
    (fun b => (b.tickCount, b.sticky.tickDone, b.vw.s0, b.vw.s4, b.lastOut, b.lastPwm)) =
    some (0#32, true, 0x40000000#32, 0x41400000#32, 0xFFFFFFFF#32, 0#32) := by decide

/-! ## Interrupts and reset (2.6, 2.7) -/

theorem test_err5_irq : (afterSeq 0#32 fun b => { b with phase := .commit, irqEn := EventBits.ofWord 4#32 }).map (·.irq) =
    some true := by decide

theorem test_err8_irq : (blockAfter (exec (.wrStatus fullStrobe 4#32) (withBlock fun b =>
    { b with irqEn := EventBits.ofWord 0xFC#32, sticky := EventBits.ofWord 0xC#32 }))).map (·.irq) = some true := by decide

theorem test_rst1 : step (withAgenda (fun b => { b with phase := .getvel, tickCount := 7#32, missed := 3#32 })
    [.reset Config.pRstCycles]) = .next State.reset := by
  show resetStep _ _ = _
  unfold resetStep
  rw [if_neg (Nat.lt_irrefl _)]
  rfl

/-! ## A word placed by withFetchWord is the next to run -/

theorem test_fetch_rd : readValue (step (State.reset.withFetchWord 16 0x0000)) = some 0x53570007#32 := by decide

theorem test_fetch_cmd : (blockAfter (step (State.reset.withFetchWord 32 0x00000006))).map (·.phase) = some .settgt := by decide

theorem test_fetch_engine : (blockAfter (step (State.reset.withFetchWord 40 0x300000000))).map (·.phase) = some .getraw := by
  decide

theorem test_fetch_pwm : (match step (State.reset.withFetchWord 24 0x030258) with
    | .next s => s.env.pwmLog
    | .fault _ => []
    | .refused _ => []) = [0x030258#24] := by decide

/-! ## Witnesses: states and operands that meet the hypotheses of the statements, clause by clause -/

/-- Stopped: TICK_EN = 0, no tick in progress. -/
def stopped : State := State.reset

/-- The timer enabled, no tick in progress. -/
def enabled : State := withBlock fun b => { b with tickEn := true }

/-- The timer stopped, a tick in progress. -/
def busy : State := withBlock fun b => { b with phase := .getout }

/-- The timer enabled, a tick in progress. -/
def enabledBusy : State := withBlock fun b => { b with tickEn := true, phase := .commit }

theorem witness_O1 : (Instr.eGetRaw 0#32).wellFormed = true ∧ (Instr.eSetTarget 0xFFFFFFFF#32).wellFormed = true ∧
    (Instr.wrDw4Buserr 0xF#4 0xFFFFFFFF#32).wellFormed = true := by decide

theorem witness_O2 : decode (.cmd 0x00000015#32) = .ok (.clear .dw) ∧ decode (.eng 0x2FFFFFFFF#35) = .ok (.eSetTarget 0xFFFFFFFF#32) ∧
    decode (.host (.read 0x090#12)) = .ok .rdDw4 ∧ decode (.pwm 0xFFFFFF#24) = .ok (.pwmWrite 0xFF#8 0xFFFF#16) := by decide

theorem witness_O4 : illegalCommandWord 0x00000020#32 ∧ illegalCommandWord 0x00000007#32 ∧ illegalCommandWord 0x00000010#32 ∧
    illegalCommandWord 0x00000014#32 ∧ illegalCommandWord 0x00000016#32 ∧ ¬ illegalCommandWord 0x00000006#32 := by
  unfold illegalCommandWord; decide

theorem witness_O5_reads : isBusError (.read 0x001#12) ∧ isBusError (.read 0x058#12) ∧ isBusError (.read 0x05C#12) ∧
    isBusError (.read 0x074#12) ∧ isBusError (.read 0x094#12) ∧ isBusError (.read 0xFFC#12) ∧ ¬ isBusError (.read 0x000#12) ∧
    ¬ isBusError (.read 0x054#12) ∧ ¬ isBusError (.read 0x060#12) ∧ ¬ isBusError (.read 0x070#12) ∧
    ¬ isBusError (.read 0x080#12) ∧ ¬ isBusError (.read 0x090#12) := by
  simp [isBusError, mappedOffset]

theorem witness_O5_writes : isBusError (.write 0x006#12 0xF#4 0#32) ∧ isBusError (.write 0x058#12 0xF#4 0#32) ∧
    isBusError (.write 0x034#12 0xE#4 0#32) ∧ isBusError (.write 0x090#12 0xF#4 0#32) ∧ ¬ isBusError (.write 0x034#12 0xF#4 0#32) ∧
    ¬ isBusError (.write 0x004#12 0xF#4 0#32) := by
  simp [isBusError, mappedOffset, readOnlyOffset]

theorem witness_O5_agenda : (withAgenda (fun b => b) [.host (.read 0x058#12)]).env.agenda = .host (.read 0x058#12) :: [] ∧
    (withAgenda (fun b => b) [.host (.write 0x006#12 0xF#4 0#32)]).env.agenda = .host (.write 0x006#12 0xF#4 0#32) :: [] :=
  ⟨rfl, rfl⟩

theorem witness_O6 : decode (.host (.read 0x020#12)) = .ok .rdTimer ∧ stopped.blk.tickEn = false ∧
    decode (.host (.read 0x000#12)) = .ok .rdId ∧ Instr.rdId ≠ .rdTimer := by decide

/-- A state of the invariant whose PERIOD is known. -/
def invState : State := withBlock fun b => { b with period := 5#32 }

theorem witness_O9 : stopped.blk.tickEn = false ∧
    ({ enabled with env := { enabled.env with timed := true } } : State).env.timed = true ∧ invState.Inv ∧
    invState.blk.tickEn = false ∧ enabled.blk.tickEn = true ∧ enabled.env.timed = false ∧ invState.blk.period ≠ 0#32 := by decide

theorem witness_O10 : (Block.reset.phase, 0#4) ∈ [(Phase.idle, 0#4), (.settgt, 1#4), (.refresh, 2#4), (.compute, 3#4),
    (.getout, 4#4), (.pwmwr, 5#4), (.getvel, 6#4), (.getraw, 7#4), (.commit, 8#4)] := by decide

/-- SETTGT, with the setpoint that stands on the port still in SETPOINT. -/
def sending : State := withBlock fun b => { b with phase := .settgt }

/-- SETTGT, with a setpoint held for the port and a newer one in SETPOINT. -/
def holding : State := withBlock fun b => { b with phase := .settgt, setpoint := 2#32, heldTarget := some 1#32 }

theorem witness_O14 : stopped.blk.phase ≠ .settgt ∧ sending.blk.phase = .settgt ∧ holding.blk.phase = .settgt := by decide

theorem witness_O15 : (stopped.blk.tickEn = false ∧ stopped.blk.phase = .idle) ∧ enabled.blk.tickEn = true ∧
    busy.blk.phase ≠ .idle := by decide

theorem witness_O16 : (0x0#4 : Strobe) ≠ 0xF#4 ∧ (0xE#4 : Strobe) ≠ 0xF#4 := by decide

theorem witness_O18 : (∃ t, exec (.wrCtrl fullStrobe 1#32) stopped = .next t) ∧ (∃ t, exec (.wrStatus fullStrobe 1#32) stopped = .next t) ∧
    (∃ t, exec (.wrErrCause fullStrobe 1#32) stopped = .next t) ∧ (∃ t, exec (.wrIrqEn fullStrobe 1#32) stopped = .next t) ∧
    (∃ t, exec (.wrMissed fullStrobe 1#32) stopped = .next t) ∧ (∃ t, exec (.wrSetpoint fullStrobe 1#32) sending = .next t) ∧
    (∃ t, exec (.wrData fullStrobe 1#32) stopped = .next t) ∧ (∃ t, exec (.wrCfg fullStrobe 1#32) stopped = .next t) ∧
    (∃ t, exec (.wrPeriod fullStrobe 1#32) enabled = .next t) :=
  ⟨⟨_, rfl⟩, ⟨_, rfl⟩, ⟨_, rfl⟩, ⟨_, rfl⟩, ⟨_, rfl⟩, ⟨_, rfl⟩, ⟨_, rfl⟩, ⟨_, rfl⟩, ⟨_, rfl⟩⟩

theorem witness_O19 : decode (.cmd 0x00000006#32) = .ok .forceTick ∧ illegalCommandWord 0xFFFFFFFF#32 ∧ (0x7#4 : Strobe) ≠ 0xF#4 := by
  unfold illegalCommandWord; decide

theorem witness_O20_O21_O24 : (stopped.blk.tickEn = false ∧ stopped.blk.phase = .idle) ∧ enabled.blk.tickEn = true ∧
    enabledBusy.blk.tickEn = true ∧ (busy.blk.tickEn = false ∧ busy.blk.phase ≠ .idle) := by decide

theorem witness_O25 : (∃ t, exec .nop stopped = .next t) ∧ (∃ t, exec (.push .vw) stopped = .next t) ∧
    (∃ t, exec (.push .dw) busy = .next t) ∧ (∃ t, exec (.clear .vw) enabled = .next t) ∧ (∃ t, exec (.clear .dw) stopped = .next t) ∧
    (∃ t, exec (.mean .vw) busy = .next t) ∧ (∃ t, exec (.mean .dw) stopped = .next t) ∧ (∃ t, exec (.stddev .vw) enabled = .next t) ∧
    (∃ t, exec (.stddev .dw) stopped = .next t) ∧ (∃ t, exec .snap enabledBusy = .next t) ∧ (∃ t, exec .forceTick stopped = .next t) :=
  ⟨⟨_, rfl⟩, ⟨_, rfl⟩, ⟨_, rfl⟩, ⟨_, rfl⟩, ⟨_, rfl⟩, ⟨_, rfl⟩, ⟨_, rfl⟩, ⟨_, rfl⟩, ⟨_, rfl⟩, ⟨_, rfl⟩, ⟨_, rfl⟩⟩

theorem witness_O26 : (withAgenda (fun b => { b with tickEn := true }) [.timer]).env.agenda = .timer :: [] ∧
    (withAgenda (fun b => { b with tickEn := true }) [.timer]).env.timed = false ∧ enabled.blk.tickEn = true ∧
    enabled.blk.phase = .idle ∧ enabledBusy.blk.tickEn = true ∧ enabledBusy.blk.phase ≠ .idle ∧ busy.blk.tickEn = false := by decide

/-- A run that counts time, TIMER's step next. -/
def timedState (f : Block → Block) : State :=
  { blk := f Block.reset, env := { State.reset.env with agenda := [.timer], timed := true } }

theorem witness_O27 : (timedState fun b => b).env.agenda = .timer :: [] ∧ (timedState fun b => b).env.timed = true ∧
    (timedState fun b => b).blk.tickEn = false ∧
    (timedState fun b => { b with tickEn := true, period := 2#32, timer := 0#32 }).blk.timer ≠ 2#32 - 1#32 ∧
    (timedState fun b => { b with tickEn := true, period := 2#32, timer := 1#32 }).blk.timer = 2#32 - 1#32 ∧
    (timedState fun b => { b with tickEn := true, period := 0#32, timer := 0xFFFFFFFF#32, phase := .commit }).blk.timer =
      0#32 - 1#32 := by decide

theorem witness_O28 : (sending.blk.phase = .settgt ∧ sending.blk.heldTarget = none) ∧
    (holding.blk.phase = .settgt ∧ holding.blk.heldTarget = some 1#32) ∧
    (withBlock fun b => { b with phase := .refresh }).blk.phase = .refresh ∧
    (withBlock fun b => { b with phase := .compute }).blk.phase = .compute ∧ busy.blk.phase = .getout ∧
    (withBlock fun b => { b with phase := .getvel, cfg := { b.cfg with dutySrc := true } }).blk.cfg.dutySrc = true ∧
    (withBlock fun b => { b with phase := .getvel }).blk.cfg.dutySrc = false ∧
    (withBlock fun b => { b with phase := .getraw }).blk.phase = .getraw := by decide

/-- PWMWR with an output and a maximum. -/
def sendState (out : Word) (max : BitVec 16) : State :=
  withBlock fun b => { b with phase := .pwmwr, lOut := out, cfg := { b.cfg with pwmMax := max } }

/-- `val` is what the three hypotheses on it say, for an output and a maximum. -/
def isClamped (out : Word) (max val : BitVec 16) : Bool :=
  (!decide (out.toInt < 0) || val == 0#16) && (!decide (out.toInt > max.toNat) || val == max) &&
    (!decide (0 ≤ out.toInt ∧ out.toInt ≤ max.toNat) || decide ((val.toNat : Int) = out.toInt))

theorem witness_O29 : (sendState 0#32 0#16).blk.phase = .pwmwr ∧ isClamped 0xFFFFFFFF#32 1000#16 0#16 = true ∧
    isClamped 1001#32 1000#16 1000#16 = true ∧ isClamped 1000#32 1000#16 1000#16 = true ∧ isClamped 0#32 0#16 0#16 = true ∧
    isClamped 0x80000000#32 0xFFFF#16 0#16 = true := by decide

theorem witness_O30 : stopped.blk.phase ≠ .settgt ∧ (2#32 : Word) ≠ holding.blk.heldTarget.getD holding.blk.setpoint ∧ stopped.blk.phase ≠ .refresh ∧
    stopped.blk.phase ≠ .compute ∧ stopped.blk.phase ≠ .getout ∧ stopped.blk.phase ≠ .getvel ∧ stopped.blk.phase ≠ .getraw ∧
    stopped.blk.phase ≠ .pwmwr ∧ (1#32 : Word) ≠ 0#32 ∧ (1#8 : BitVec 8) ≠ stopped.blk.cfg.pwmCh := by decide

theorem witness_O31 : (withAgenda (fun b => { b with phase := .commit }) [.seq 0#32]).env.agenda = .seq 0#32 :: [] ∧
    (withAgenda (fun b => { b with phase := .commit }) [.seq 0#32]).blk.phase = .commit := by decide

theorem witness_O32 : decodeHost (.read 0x090#12) = .ok .rdDw4 ∧ decodeHost (.write 0x034#12 fullStrobe 6#32) = .ok .forceTick ∧
    decodeHost (.write 0x034#12 fullStrobe 7#32) = .ok (.wrCmd fullStrobe 7#32) ∧
    busy.blk.portRequest = some (.eng 0x400000000#35) ∧ (sendState 5#32 9#16).blk.portRequest = some (.pwm 0x000005#24) := by decide

theorem witness_O33 : decodeTableWord 16 0x0090 = some .rdDw4 ∧ decodeTableWord 24 0xFFFFFF = some (.pwmWrite 0xFF#8 0xFFFF#16) ∧
    decodeTableWord 32 0x00000015 = some (.clear .dw) ∧ decodeTableWord 40 0x2FFFFFFFF = some (.eSetTarget 0xFFFFFFFF#32) := by decide

theorem witness_O34 : (withAgenda (fun b => b) [.seq 1#32]).env.agenda = .seq 1#32 :: [] := rfl

theorem witness_O35 : ∃ t, step (withAgenda (fun b => { b with phase := .getout }) [.host (.write 0x004#12 fullStrobe 0#32)]) = .next t ∧
    (Event.host (.write 0x004#12 fullStrobe 0#32)).isSeq = false ∧ (Event.host (.write 0x004#12 fullStrobe 0#32)).isReset = false ∧
    busy.blk.phase ≠ .idle :=
  ⟨_, rfl, rfl, rfl, by decide⟩

/-- SETTGT with eight acknowledges, a timer event and a host access among them. -/
def fullTick : State :=
  withAgenda (fun b => { b with tickEn := true, phase := .settgt })
    [.seq 1#32, .timer, .seq 2#32, .seq 3#32, .host (.read 0x008#12), .seq 4#32, .seq 5#32, .seq 6#32, .seq 7#32, .seq 8#32]

theorem witness_O36 : fullTick.blk.phase ≠ .idle ∧ (∀ ev ∈ fullTick.env.agenda, ev.isReset = false) ∧
    fullTick.blk.phase.remaining ≤ (fullTick.env.agenda.filter Event.isSeq).length := by decide

/-- A tick at its start, with its acknowledges to come: from SETTGT or REFRESH, with DUTY_SRC as given. -/
def tickStart (setTarget dutySrc : Bool) : State :=
  withAgenda (fun b => { b with phase := if setTarget then .settgt else .refresh, cfg := { b.cfg with dutySrc := dutySrc } })
    ((if setTarget then [.seq 0#32] else []) ++ [.seq 1#32, .seq 2#32, .seq 3#32, .seq 4#32, .seq 5#32] ++
      (if dutySrc then [] else [.seq 6#32]) ++ [.seq 7#32])

theorem witness_O37 : ∀ st d : Bool, (tickStart st d).blk.phase = (if st then .settgt else .refresh) ∧
    (tickStart st d).env.agenda = (if st then [.seq 0#32] else []) ++ [.seq 1#32, .seq 2#32, .seq 3#32, .seq 4#32, .seq 5#32] ++
      (if (tickStart st d).blk.cfg.dutySrc then [] else [.seq 6#32]) ++ .seq 7#32 :: [] := by
  intro st d; cases st <;> cases d <;> exact ⟨rfl, rfl⟩

theorem witness_O38 : (Cause.tickOverrun, 3, 6) ∈ [(Cause.cmdIllegal, 4, 1), (.cmdOwnership, 4, 2), (.cmdBusy, 4, 3), (.cfgLocked, 5, 4),
      (.busError, 6, 5), (.tickOverrun, 3, 6), (.pwmSaturated, 7, 7)] ∧ Block.reset.errCause = .noError ∧
    (Block.reset.raise .busError 0#32).errCause ≠ .noError := by decide

/-- An error captured, a bus error next. -/
def captured : State := withAgenda (fun b => { b with errCause := .busError }) [.host (.read 0x058#12)]

theorem witness_O39 : captured.blk.errCause ≠ .noError ∧ (∃ t, step captured = .next t) ∧
    (∀ wdata rest, captured.env.agenda ≠ .host (.write 0x00C#12 fullStrobe wdata) :: rest) ∧
    (∀ n rest, captured.env.agenda ≠ .reset n :: rest) := by
  refine ⟨by decide, ⟨_, rfl⟩, ?_, ?_⟩ <;> (intro _ _ h; cases h)

theorem witness_O41 : ∃ t, step (withAgenda (fun b => { b with phase := .getvel }) [.seq 0x7FC00001#32]) = .next t ∧
    (withAgenda (fun b => { b with phase := .getvel }) [.seq 0x7FC00001#32]).blk.phase ≠ .pwmwr :=
  ⟨_, rfl, by decide⟩

theorem witness_O42 : ∃ t, ({ invState with env := { invState.env with agenda := [.host (.read 0x000#12)] } } : State).Inv ∧
    step { invState with env := { invState.env with agenda := [.host (.read 0x000#12)] } } = .next t :=
  ⟨_, by decide, rfl⟩

theorem witness_O44 : ∃ t, step (withAgenda (fun b => { b with data := 1#32 }) [.host (.write 0x034#12 fullStrobe 0x00000011#32)]) =
      .next t ∧ t.blk.dw ≠ (withAgenda (fun b => { b with data := 1#32 }) []).blk.dw :=
  ⟨_, rfl, by decide⟩

theorem witness_O45 : (∃ t, step (withAgenda (fun b => { b with tickEn := true }) [.timer]) = .next t ∧ t.blk.phase ≠ .idle) ∧
    enabled.blk.phase = .idle ∧
    (∃ t, step (timedState fun b => { b with tickEn := true, period := 2#32, timer := 1#32 }) = .next t ∧ t.blk.phase ≠ .idle) ∧
    (∃ t, step (withAgenda (fun b => b) [.host (.write 0x034#12 fullStrobe 0x00000006#32)]) = .next t ∧ t.blk.phase ≠ .idle) :=
  ⟨⟨_, rfl, by decide⟩, by decide, ⟨_, rfl, by decide⟩, ⟨_, rfl, by decide⟩⟩

theorem witness_O46 : (∃ t, step (withAgenda (fun b => b) [.host (.write 0x02C#12 fullStrobe 1#32)]) = .next t ∧
      t.blk.setpoint ≠ State.reset.blk.setpoint) ∧
    (∃ t, step (withAgenda (fun b => b) [.host (.write 0x030#12 fullStrobe 1#32)]) = .next t ∧ t.blk.data ≠ State.reset.blk.data) ∧
    (∃ t, step (withAgenda (fun b => { b with phase := .settgt }) [.seq 0#32]) = .next t ∧ State.reset.blk.spPending = true ∧
      t.blk.spPending = false) ∧ ∀ n rest, (withAgenda (fun b => b) [.seq 0#32]).env.agenda ≠ .reset n :: rest :=
  ⟨⟨_, rfl, by decide⟩, ⟨_, rfl, by decide⟩, ⟨_, rfl, by decide, by decide⟩, fun _ _ h => by cases h⟩

theorem witness_O47 : ∃ t, step (withAgenda (fun b => { b with phase := .pwmwr }) [.seq 0#32]) = .next t ∧ t.env.pwmLog ≠ [] :=
  ⟨_, rfl, by decide⟩

theorem witness_O48 : (∃ t, step (withAgenda (fun b => { b with tickEn := true }) [.host (.write 0x018#12 fullStrobe 0#32)]) = .next t) ∧
    enabled.blk.tickEn = true ∧ busy.blk.phase ≠ .idle ∧
    ∀ n rest, (withAgenda (fun b => b) [.host (.write 0x018#12 fullStrobe 0#32)]).env.agenda ≠ .reset n :: rest :=
  ⟨⟨_, rfl⟩, by decide, by decide, fun _ _ h => by cases h⟩

theorem witness_O49 : (∃ t, step (withAgenda (fun b => { b with phase := .commit }) [.seq 0#32]) = .next t ∧ t.blk.tickCount = 1#32) ∧
    ∀ n rest, (withAgenda (fun b => b) [.seq 0#32]).env.agenda ≠ .reset n :: rest :=
  ⟨⟨_, rfl, by decide⟩, fun _ _ h => by cases h⟩

theorem witness_O50 : (withAgenda (fun b => b) [.reset Config.pRstCycles]).env.agenda = .reset Config.pRstCycles :: [] ∧
    Config.pRstCycles ≤ Config.pRstCycles := ⟨rfl, Nat.le_refl _⟩

theorem witness_O51_short : (withAgenda (fun b => b) [.reset 0]).env.agenda = .reset 0 :: [] ∧ 0 < Config.pRstCycles :=
  ⟨rfl, Nat.succ_pos _⟩

theorem witness_O51 : ∀ ev rest, (withAgenda (fun b => b) [.reset Config.pRstCycles]).env.agenda = ev :: rest → ev.resetLongEnough := by
  intro ev rest h
  cases h
  exact Nat.le_refl _

theorem witness_O52 : 0 < 1 ∧ (2 ^ 25 - 1) * 2 ^ 252 - 1 < (2 ^ 25 - 1) * 2 ^ 252 * 1 ∧ 0x7F7FFFFF < 0x7F800000 ∧
    (2 ^ 25 - 1) * 2 ^ 252 * 1 ≤ (2 ^ 25 - 1) * 2 ^ 252 := by decide +kernel

theorem witness_O53 : F32.isFinite 0x00000001#32 = true ∧ F32.signBit 0x00000001#32 = false ∧ F32.units 0x00000001#32 ≠ 0 ∧
    F32.isFinite 0x7F7FFFFF#32 = true ∧ F32.signBit 0x7F7FFFFF#32 = false ∧ F32.units 0x7F7FFFFF#32 ≠ 0 := by decide +kernel

theorem witness_O54 : F32.isFinite 0x7F7FFFFF#32 = true ∧ F32.isFinite 0x80000001#32 = true ∧ F32.isFinite 0x3F800000#32 = true ∧
    |F32.value 0x7F7FFFFF#32 + F32.value 0x80000001#32| < F32.overflowUnits * 1 ∧
    F32.overflowUnits * 1 ≤ |F32.value 0x7F7FFFFF#32 + F32.value 0x7F7FFFFF#32| ∧
    |F32.value 0x7F7FFFFF#32 * F32.value 0x3F800000#32| < F32.overflowUnits * 2 ^ 149 ∧ F32.value 0x3F800000#32 ≠ 0 ∧
    |(F32.value 0x3F800000#32).sign * F32.value 0x7F7FFFFF#32 * 2 ^ 149| <
      (F32.overflowUnits : Int) * (F32.units 0x3F800000#32 : Int) := by decide +kernel

theorem witness_O54_zero : F32.value 0x3F800000#32 + F32.value 0xBF800000#32 = 0 ∧ F32.value 0x80000000#32 - F32.value 0#32 = 0 ∧
    F32.value 0x80000000#32 = 0 ∧ F32.isFinite 0x80000000#32 = true := by decide +kernel

theorem witness_O55 : F32.atMost62 0x5E800000#32 ∧ F32.atMost62 0xDE800000#32 ∧ F32.atMost62 0x00000000#32 := by
  unfold F32.atMost62; decide +kernel

theorem witness_O56 : F32.isNaN 0x7F800001#32 = true ∧ F32.isNaN 0xFFFFFFFF#32 = true ∧
    F32.isNaN (Window.mean { s0 := 0x7F800000#32, s1 := 0xFF800000#32, s2 := 0#32, s3 := 0#32, s4 := 0#32 }) = true ∧
    F32.isNaN (all5 0x60AD78EC#32).stddev = true := by decide +kernel

/-- A window of one infinity, and finite slots at the bound and below. -/
def oneInfinity : Window := { s0 := 0x7E000000#32, s1 := 0xFE000000#32, s2 := 0xFF800000#32, s3 := 0#32, s4 := 1#32 }

/-- 2^125 and −2^125 lie at the bound, 2^-149 below it. -/
theorem at_the_bound : (F32.isFinite 0x7E000000#32 = true ∧ F32.units 0x7E000000#32 ≤ 2 ^ 125 * 2 ^ 149) ∧
    (F32.isFinite 0xFE000000#32 = true ∧ F32.units 0xFE000000#32 ≤ 2 ^ 125 * 2 ^ 149) ∧
    (F32.isFinite 0#32 = true ∧ F32.units 0#32 ≤ 2 ^ 125 * 2 ^ 149) ∧
    (F32.isFinite 1#32 = true ∧ F32.units 1#32 ≤ 2 ^ 125 * 2 ^ 149) := by decide +kernel

theorem witness_O56_one_infinity : 0xFF800000#32 ∈ [0x7F800000#32, 0xFF800000#32] ∧ 0xFF800000#32 ∈ oneInfinity.slots ∧
    ∀ x ∈ oneInfinity.slots, x = 0xFF800000#32 ∨ (F32.isFinite x = true ∧ F32.units x ≤ 2 ^ 125 * 2 ^ 149) := by
  obtain ⟨h0, h1, h3, h4⟩ := at_the_bound
  refine ⟨by decide, by decide, ?_⟩
  intro x hx
  simp only [oneInfinity, Window.slots, List.mem_cons, List.not_mem_nil, or_false] at hx
  rcases hx with rfl | rfl | rfl | rfl | rfl
  exacts [.inr h0, .inr h1, .inl rfl, .inr h3, .inr h4]

theorem witness_O56_infinite : 0x7F800000#32 ∈ (all5 0x7F800000#32).slots ∧
    0x7F800000#32 ∈ Window.slots { s0 := 0x7F800000#32, s1 := 0xFF800000#32, s2 := 0#32, s3 := 0#32, s4 := 0#32 } ∧
    0xFF800000#32 ∈ Window.slots { s0 := 0x7F800000#32, s1 := 0xFF800000#32, s2 := 0#32, s3 := 0#32, s4 := 0#32 } ∧
    F32.isFinite 0x80000000#32 = true ∧ F32.units 0x80000000#32 = 0 ∧ F32.units 0x00000001#32 ≠ 0 := by decide

theorem witness_O57 : F32.lt (all5 0x3F333333#32).variance F32.zero = true ∧ F32.lt win2.variance F32.zero = false ∧
    F32.isNaN (all5 0x60AD78EC#32).variance = true := by decide +kernel

theorem witness_O57_order : F32.isNaN 0xFF800001#32 = true ∧ F32.isFinite 0x80000000#32 = true ∧ F32.isFinite 0#32 = true := by
  decide

theorem witness_O58 : stopped.blk.tickEn = false ∧ stopped.blk.phase = .idle := by decide

/-- A SETPOINT write and a timer event while SETTGT waits. -/
def writtenInSettgt : State :=
  withAgenda (fun b => { b with phase := .settgt, period := 5#32 })
    [.host (.write 0x02C#12 fullStrobe 0x41400000#32), .timer, .seq 0#32]

theorem witness_O59 : (∃ t, step writtenInSettgt = .next t) ∧
    (Event.host (.write 0x02C#12 fullStrobe 0x41400000#32)).isSeq = false ∧
    (Event.host (.write 0x02C#12 fullStrobe 0x41400000#32)).isReset = false ∧
    writtenInSettgt.blk.portRequest = some (.eng 0x200000000#35) ∧
    (sendState 5#32 9#16).blk.portRequest = some (.pwm 0x000005#24) :=
  ⟨⟨_, rfl⟩, by decide, by decide, by decide, by decide⟩

theorem witness_O60_tick : writtenInSettgt.Inv ∧ writtenInSettgt.blk.phase ≠ .idle ∧
    (∀ ev ∈ writtenInSettgt.env.agenda, ev.isReset = false) ∧ (∃ t, Sys2Proof.core.run 3 writtenInSettgt = .next t) ∧
    (match Sys2Proof.core.run 2 writtenInSettgt with
      | .next u => decide (u.blk.phase ≠ .idle)
      | .fault _ => false
      | .refused _ => false) = true :=
  ⟨by decide, by decide, by decide, ⟨_, rfl⟩, by decide⟩

theorem witness_O60_idle : invState.Inv ∧ invState.blk.phase = .idle ∧ invState.blk.spPending = true ∧
    (∃ t, step { invState with env := { invState.env with agenda := [.host (.write 0x034#12 fullStrobe 6#32)] } } = .next t ∧
      t.blk.phase ≠ .idle) :=
  ⟨by decide, by decide, by decide, _, rfl, by decide⟩

end Sys2Proof.Tests
end

section
/-! SUPPORT. Fetching: the instruction a step of HOST or SEQ runs, and the words placed from the opcode table (R13, R17,
R300). -/

namespace Sys2Proof.Machine

/-! ## The request lines and the decoder -/

/-- Every port request the block asserts is the word of a well-formed instruction, which the decoder reads from it. -/
theorem portRequest_decodes {b : Block} {w : PortWord} (h : b.portRequest = some w) :
    ∃ i : Instr, decode w = .ok i ∧ i.wellFormed = true := by
  unfold Block.portRequest Block.engineRequest Block.pwmRequest at h
  cases hp : b.phase <;> simp only [hp, Option.some.injEq, reduceCtorEq] at h <;> subst h
  case settgt => exact ⟨.eSetTarget b.target, decodeEng_setTarget _, rfl⟩
  case refresh => exact ⟨.eRefresh 0#32, by decide, rfl⟩
  case compute => exact ⟨.eCompute 0#32, by decide, rfl⟩
  case getout => exact ⟨.eGetOut 0#32, by decide, rfl⟩
  case pwmwr => exact ⟨_, rfl, rfl⟩
  case getvel => exact ⟨.eGetVel 0#32, by decide, rfl⟩
  case getraw => exact ⟨.eGetRaw 0#32, by decide, rfl⟩

/-- HOST's turn, where its access decodes (R13, R600). -/
theorem step_host_decoded {s : State} {a : Access} {i : Instr} {rest : List Event}
    (h : s.env.agenda = .host a :: rest) (hd : decodeHost a = .ok i) : step s = exec i (s.popped rest) := by
  rw [step_host h, hostAction, hd]; rfl

/-- SEQ's turn, where its phase asserts a port request (R13, R17). -/
theorem step_seq_request {s : State} {reply : Word} {w : PortWord} {i : Instr} {rest : List Event}
    (h : s.env.agenda = .seq reply :: rest) (hr : s.blk.portRequest = some w) (hd : decode w = .ok i) :
    step s = exec i { blk := s.blk, env := { s.env with agenda := rest, erdata := reply } } := by
  rw [step_seq h, seqAction, popped_blk, hr]
  simp only [hd]
  rfl

/-- Settles O32: one step lemma for each of the two agents, and the decoding of each phase's request. -/
theorem stepRunsTheDecodedInstruction : Obligations.StepRunsTheDecodedInstruction := by
  refine fun s rest => ⟨fun a i h hd => step_host_decoded h hd, fun reply w h hr => ?_⟩
  obtain ⟨i, hd, hwf⟩ := portRequest_decodes hr
  exact ⟨i, hd, hwf, step_seq_request h hr hd⟩

/-! ## Words placed from the opcode table -/

/-- The instruction an engine word decodes to is E_SET_TARGET or one without an argument, and the word is its own
encoding (R330). -/
theorem decodeEng_cases {w : BitVec 35} {i : Instr} (h : decodeEng w = .ok i) :
    encode i = .eng w ∧ ((∃ d, i = .eSetTarget d) ∨
      i ∈ [.eRefresh 0#32, .eCompute 0#32, .eGetVel 0#32, .eGetOut 0#32, .eGetRaw 0#32]) := by
  rw [← engWord_of_fields w] at h ⊢
  generalize w.extractLsb' 32 3 = op at h ⊢
  generalize w.extractLsb' 0 32 = d at h ⊢
  simp only [decodeEng, engWord_eop, engWord_data, engNoData] at h
  split at h
  case h_3 => cases h; exact ⟨rfl, .inl ⟨d, rfl⟩⟩
  case h_7 => cases h
  all_goals
    split at h
    next hd => cases h; subst hd; exact ⟨rfl, .inr (by decide)⟩
    next => cases h

/-- The block placed for an engine request asserts exactly that request (R507, R511). -/
theorem issuing_portRequest {w : BitVec 35} {i : Instr} (b : Block) (h : decodeEng w = .ok i) :
    (b.issuing (.ok i)).portRequest = some (.eng w) := by
  obtain ⟨henc, hi⟩ := decodeEng_cases h
  rw [← henc]
  rcases hi with ⟨d, rfl⟩ | hi
  · rfl
  · simp only [List.mem_cons, List.not_mem_nil, or_false] at hi
    rcases hi with rfl | rfl | rfl | rfl | rfl <;> rfl

/-- A 16-bit value is not clamped where the maximum allows it (R515). -/
theorem saturate_zeroExtend {v max : BitVec 16} (h : v ≤ max) : saturate (v.zeroExtend 32) max = v := by
  have hv : (v.zeroExtend 32).toInt = v.toNat := by
    rw [BitVec.toInt_eq_toNat_of_lt (by simp; omega)]; simp; omega
  have hle : v.toNat ≤ max.toNat := h
  exact saturate_unique _ _ _ (by omega) (by omega) (fun _ _ => hv.symm)

/-- The block placed for a PWM request asserts exactly that request (R508, R515). -/
theorem sending_portRequest (b : Block) (w : BitVec 24) :
    (b.sending (w.extractLsb' 16 8) (w.extractLsb' 0 16)).portRequest = some (.pwm w) := by
  have hmax : ∀ max v : BitVec 16, v ≤ if max < v then v else max := by
    intro max v
    split
    next => exact BitVec.le_refl v
    next h => exact BitVec.not_lt.mp h
  simp only [Block.portRequest, Block.engineRequest, Block.pwmRequest, Block.sending, saturate_zeroExtend (hmax _ _),
    pwmWord_of_fields]

/-- The instruction of a PWM word is the one whose encoding is that word (R340). -/
theorem encode_of_decodePwm {w : BitVec 24} {i : Instr} (h : decodePwm w = .ok i) : encode i = .pwm w := by
  cases h
  rw [encode, pwmWord_of_fields]

/-- A write without a strobe, as the table's words give it, delivers no command, whatever its offset (R215, R301). -/
theorem decodeHost_of_no_strobe {off : Offset} {wdata : Word} :
    decodeHost (.write off 0#4 wdata) = decodeAccess (.write off 0#4 wdata) := by
  simp [decodeHost, fullStrobe]

/-- What a word of the opcode table's numbering is, by its width. -/
theorem tableWord_cases {nbits w : Nat} {p : PortWord} (h : tableWord nbits w = some p) :
    (nbits = 16 ∧ ∃ a, p = .host a ∧ decodeHost a = decodeAccess a) ∨ (nbits = 24 ∧ ∃ x, p = .pwm x) ∨
    (nbits = 32 ∧ ∃ c, p = .cmd c) ∨ (nbits = 40 ∧ ∃ x, p = .eng x) := by
  unfold tableWord at h
  split_ifs at h with h16 hread hwrite h24 _ h32 _ h40 _ <;> cases h
  · exact .inl ⟨h16, _, rfl, rfl⟩
  · exact .inl ⟨h16, _, rfl, decodeHost_of_no_strobe⟩
  · exact .inr (.inl ⟨h24, _, rfl⟩)
  · exact .inr (.inr (.inl ⟨h32, _, rfl⟩))
  · exact .inr (.inr (.inr ⟨h40, _, rfl⟩))

/-- A table word that decodes is a word of a port, and placing it places that port word. -/
theorem decodeTableWord_some {nbits w : Nat} {i : Instr} (h : decodeTableWord nbits w = some i) :
    ∃ p, tableWord nbits w = some p ∧ decode p = .ok i ∧ ∀ s : State, s.withFetchWord nbits w = s.withPortWord p := by
  unfold decodeTableWord at h
  split at h
  next => cases h
  next p hp =>
    split at h
    next j hd => cases h; exact ⟨p, hp, hd, fun s => by rw [State.withFetchWord, State.withTableWord, hp]⟩
    next => cases h

/-- Settles O33: by the port of the word, the placed event is the agent's next step, and a placed block asserts the port
request itself. -/
theorem placedTableWordIsRunNext : Obligations.PlacedTableWordIsRunNext := by
  intro s nbits w i h
  obtain ⟨p, hp, hd, hplace⟩ := decodeTableWord_some h
  rw [hplace]
  rcases tableWord_cases hp with ⟨rfl, a, rfl, ha⟩ | ⟨rfl, x, rfl⟩ | ⟨rfl, c, rfl⟩ | ⟨rfl, x, rfl⟩
  · exact ⟨step_host_decoded rfl (ha.trans hd), fun _ => rfl, by omega⟩
  · have hreq := sending_portRequest s.blk x
    refine ⟨step_seq_request rfl hreq hd, by omega, fun _ => ?_⟩
    rw [encode_of_decodePwm hd]; exact hreq
  · have hcmd : decodeHost (.write 0x034#12 fullStrobe c) = .ok i := by
      rw [decodeHost, if_pos ⟨rfl, rfl⟩, show decodeCmd c = .ok i from hd]
    exact ⟨step_host_decoded rfl hcmd, fun _ => rfl, by omega⟩
  · have hreq : (s.blk.issuing (decodeEng x)).portRequest = some (.eng x) := by
      rw [show decodeEng x = .ok i from hd]; exact issuing_portRequest s.blk hd
    refine ⟨step_seq_request rfl hreq hd, by omega, fun _ => ?_⟩
    rw [(decodeEng_cases hd).1]; exact hreq

end Sys2Proof.Machine
end

section
/-! SUPPORT. Rounding a rational to a binary32 magnitude: the two magnitudes around the exact result, the midpoint between
them, and the overflow threshold (R8, R18). -/

namespace Sys2Proof.Machine

/-! ## Distances -/

/-- Of two points, the lower one is at least as near exactly up to their midpoint. -/
theorem abs_sub_le_abs_sub_iff_of_lt {α : Type*} [CommRing α] [LinearOrder α] [IsStrictOrderedRing α] {x a b : α}
    (h : a < b) : |x - a| ≤ |x - b| ↔ 2 * x ≤ a + b := by
  have hsq : (x - b) ^ 2 - (x - a) ^ 2 = (b - a) * (a + b - 2 * x) := by ring
  rw [← sq_le_sq, ← sub_nonneg, hsq, mul_nonneg_iff_of_pos_left (sub_pos.mpr h), sub_nonneg]

/-- Of two points, the upper one is at least as near exactly from their midpoint on. -/
theorem abs_sub_le_abs_sub_iff_of_gt {α : Type*} [CommRing α] [LinearOrder α] [IsStrictOrderedRing α] {x a b : α}
    (h : b < a) : |x - a| ≤ |x - b| ↔ a + b ≤ 2 * x := by
  have hsq : (x - b) ^ 2 - (x - a) ^ 2 = (a - b) * (2 * x - (a + b)) := by ring
  rw [← sq_le_sq, ← sub_nonneg, hsq, mul_nonneg_iff_of_pos_left (sub_pos.mpr h), sub_nonneg]

/-- Two points as near as each other lie around their midpoint. -/
theorem two_mul_eq_add_of_abs_sub_eq {x a b : Int} (h : |x - a| = |x - b|) (hab : a ≠ b) : 2 * x = a + b := by
  rcases abs_eq_abs.mp h with h | h <;> omega

/-! ## The magnitudes around an exact result -/

/-- The magnitude of `n / d` units cut off, not rounded; beyond infinity it goes on counting. -/
def F32.truncMag (n d : Nat) : Nat := 2 ^ 23 * F32.scale n d + n / (d * 2 ^ F32.scale n d)

/-- The exact units of the cut-off magnitude and of the next one, where both are patterns. -/
theorem magUnits_truncMag {n d : Nat} (h : F32.truncMag n d < 0x7F800000) :
    magUnits (F32.truncMag n d) * d = n / (d * 2 ^ F32.scale n d) * (d * 2 ^ F32.scale n d) ∧
    magUnits (F32.truncMag n d + 1) * d = (n / (d * 2 ^ F32.scale n d) + 1) * (d * 2 ^ F32.scale n d) := by
  obtain ⟨hq, hk⟩ := scale_spec n d
  unfold F32.truncMag at h ⊢
  rw [Nat.add_assoc, magUnits_scaled _ _ (by omega) hk (by omega), magUnits_scaled _ _ (by omega) (by omega) (by omega)]
  constructor <;> ring

/-- The cut-off magnitude and the next one enclose `n / d`, and the rounding takes the nearer of them, at a tie the
even one. -/
theorem roundMag_between {n d : Nat} (hd : 0 < d) (h : F32.truncMag n d < 0x7F800000) :
    magUnits (F32.truncMag n d) * d ≤ n ∧ n < magUnits (F32.truncMag n d + 1) * d ∧
    ((F32.roundMag n d = F32.truncMag n d ∧
        2 * n ≤ magUnits (F32.truncMag n d) * d + magUnits (F32.truncMag n d + 1) * d ∧
        (2 * n = magUnits (F32.truncMag n d) * d + magUnits (F32.truncMag n d + 1) * d → F32.truncMag n d % 2 = 0)) ∨
      (F32.roundMag n d = F32.truncMag n d + 1 ∧
        magUnits (F32.truncMag n d) * d + magUnits (F32.truncMag n d + 1) * d ≤ 2 * n ∧
        (2 * n = magUnits (F32.truncMag n d) * d + magUnits (F32.truncMag n d + 1) * d → F32.truncMag n d % 2 = 1))) := by
  obtain ⟨hlo, hup⟩ := magUnits_truncMag h
  have hround := roundDiv_cases n (d * 2 ^ F32.scale n d)
  have hmin := roundMag_eq_min n d
  have hn := Nat.div_add_mod' n (d * 2 ^ F32.scale n d)
  have hr := Nat.mod_lt n (Nat.mul_pos hd (Nat.two_pow_pos (F32.scale n d)))
  rw [hlo, hup, Nat.succ_mul]
  unfold F32.truncMag at h ⊢
  generalize d * 2 ^ F32.scale n d = D at *
  generalize n / D = q at *
  generalize q * D = x at *
  omega

/-- Where even the cut-off magnitude is no finite one, the exact result lies beyond the overflow threshold. -/
theorem overflow_of_truncMag {n d : Nat} (h : 0x7F800000 ≤ F32.truncMag n d) :
    F32.overflowUnits * d ≤ n ∧ F32.roundMag n d = 0x7F800000 := by
  obtain ⟨hq, hk⟩ := scale_spec n d
  have hround := roundDiv_cases n (d * 2 ^ F32.scale n d)
  have hmin := roundMag_eq_min n d
  unfold F32.truncMag at h
  refine ⟨?_, by omega⟩
  calc F32.overflowUnits * d ≤ 2 ^ 23 * 2 ^ 254 * d := Nat.mul_le_mul_right d (by decide)
    _ = 2 ^ 23 * (d * 2 ^ 254) := by ring
    _ ≤ n / (d * 2 ^ F32.scale n d) * (d * 2 ^ F32.scale n d) := by
        refine Nat.mul_le_mul (by omega) (Nat.mul_le_mul_left d (Nat.pow_le_pow_right (by omega) (by omega)))
    _ ≤ n := Nat.div_mul_le_self _ _

/-- The overflow threshold is the midpoint of the largest finite magnitude and infinity's pattern. -/
theorem overflowUnits_midpoint (d : Nat) :
    2 * (F32.overflowUnits * d) = magUnits 0x7F7FFFFF * d + magUnits 0x7F800000 * d := by
  rw [← Nat.add_mul, ← Nat.mul_assoc, magUnits_eq _ (by omega), magUnits_eq _ (by omega)]
  congr 1

/-- Magnitudes scaled by a positive number are ordered as their patterns are. -/
theorem magUnits_mul_lt {m m' d : Nat} (hd : 0 < d) (h : m < m') (h' : m' < 2 ^ 31) :
    magUnits m * d < magUnits m' * d :=
  Nat.mul_lt_mul_of_pos_right (magUnits_lt h h') hd

/-- The same, where the two may be equal. -/
theorem magUnits_mul_le {m m' : Nat} (d : Nat) (h : m ≤ m') (h' : m' < 2 ^ 31) : magUnits m * d ≤ magUnits m' * d := by
  rcases Nat.eq_or_lt_of_le h with rfl | h
  · exact Nat.le_refl _
  · exact Nat.mul_le_mul_right d (Nat.le_of_lt (magUnits_lt h h'))

/-- Below the overflow threshold, and only there, the rounded magnitude is finite. -/
theorem roundMag_finite_iff {n d : Nat} (hd : 0 < d) :
    F32.roundMag n d < 0x7F800000 ↔ n < F32.overflowUnits * d := by
  by_cases h : F32.truncMag n d < 0x7F800000
  · obtain ⟨hlo, hup, hround⟩ := roundMag_between hd h
    have hmid := overflowUnits_midpoint d
    have htop := magUnits_mul_lt hd (show 0x7F7FFFFF < 0x7F800000 by omega) (by omega)
    by_cases hmax : F32.truncMag n d = 0x7F7FFFFF
    · simp only [hmax, Nat.reduceAdd] at hlo hup hround; omega
    · have := magUnits_mul_le d (show F32.truncMag n d + 1 ≤ 0x7F7FFFFF by omega) (by omega)
      omega
  · obtain ⟨hn, hinf⟩ := overflow_of_truncMag (Nat.le_of_not_lt h)
    omega

/-- Below the overflow threshold the exact result lies on the rounded magnitude's side of the midpoint with any other
finite magnitude; on the midpoint itself only where the rounded one is even. -/
theorem roundMag_midpoint {n d m : Nat} (hd : 0 < d) (hn : n < F32.overflowUnits * d) (hm : m < 0x7F800000) :
    (m < F32.roundMag n d →
      magUnits (F32.roundMag n d) * d + magUnits m * d ≤ 2 * n ∧
      (2 * n = magUnits (F32.roundMag n d) * d + magUnits m * d → F32.roundMag n d % 2 = 0)) ∧
    (F32.roundMag n d < m →
      2 * n ≤ magUnits (F32.roundMag n d) * d + magUnits m * d ∧
      (2 * n = magUnits (F32.roundMag n d) * d + magUnits m * d → F32.roundMag n d % 2 = 0)) := by
  have htrunc : F32.truncMag n d < 0x7F800000 := by
    by_contra h
    have := (overflow_of_truncMag (Nat.le_of_not_lt h)).1
    omega
  obtain ⟨hlo, hup, hround⟩ := roundMag_between hd htrunc
  have below (h : m < F32.truncMag n d) := magUnits_mul_lt hd h (by omega)
  have above (h : F32.truncMag n d + 1 < m) := magUnits_mul_lt hd h (by omega)
  rcases hround with ⟨hR, hmid, heven⟩ | ⟨hR, hmid, hodd⟩ <;> rw [hR]
  · refine ⟨fun h => ?_, fun h => ?_⟩
    · have := below h; omega
    · rcases Nat.eq_or_lt_of_le h with rfl | h
      · exact ⟨hmid, heven⟩
      · have := above h; omega
  · refine ⟨fun h => ?_, fun h => ?_⟩
    · rcases Nat.eq_or_lt_of_le (Nat.le_of_lt_succ h) with rfl | h
      · omega
      · have := below h; omega
    · have := above h; omega

/-- Below the overflow threshold no finite magnitude is nearer than the rounded one, and where another is as near the
rounded one is even. -/
theorem roundMag_nearest {n d m : Nat} (hd : 0 < d) (hn : n < F32.overflowUnits * d) (hm : m < 0x7F800000) :
    |(n : Int) - magUnits (F32.roundMag n d) * d| ≤ |(n : Int) - magUnits m * d| ∧
    (|(n : Int) - magUnits (F32.roundMag n d) * d| = |(n : Int) - magUnits m * d| → m ≠ F32.roundMag n d →
      F32.roundMag n d % 2 = 0) := by
  have hfin := (roundMag_finite_iff hd).mpr hn
  obtain ⟨hbelow, habove⟩ := roundMag_midpoint hd hn hm
  rcases Nat.lt_trichotomy m (F32.roundMag n d) with h | rfl | h
  · have hlt := magUnits_mul_lt hd h (by omega)
    obtain ⟨hmid, heven⟩ := hbelow h
    refine ⟨(abs_sub_le_abs_sub_iff_of_gt (by omega)).mpr (by omega), fun he _ => heven ?_⟩
    have := two_mul_eq_add_of_abs_sub_eq he (by omega)
    omega
  · exact ⟨le_refl _, fun _ h => absurd rfl h⟩
  · have hlt := magUnits_mul_lt hd h (by omega)
    obtain ⟨hmid, heven⟩ := habove h
    refine ⟨(abs_sub_le_abs_sub_iff_of_lt (by omega)).mpr (by omega), fun he _ => heven ?_⟩
    have := two_mul_eq_add_of_abs_sub_eq he (by omega)
    omega

/-- Settles O52: the exact result lies between the cut-off magnitude and the next, and the rounding keeps to its side of
their midpoint. -/
theorem roundingIsToNearestEven : Obligations.RoundingIsToNearestEven := by
  intro n d hd
  refine ⟨fun hn => ⟨(roundMag_finite_iff hd).mpr hn, fun m hm => roundMag_nearest hd hn hm⟩, fun hn => ?_⟩
  have hfin : ¬ F32.roundMag n d < 0x7F800000 := fun h => Nat.not_lt.mpr hn ((roundMag_finite_iff hd).mp h)
  exact Nat.le_antisymm (roundMag_le n d) (Nat.le_of_not_lt hfin)

end Sys2Proof.Machine
end

section
/-! SUPPORT. The binary32 operations on finite numbers: each rounds its exact signed result once (R8, R18). -/

namespace Sys2Proof.Machine

/-! ## Rounding a signed result -/

/-- A zero result rounds to zero. -/
theorem roundMag_zero (d : Nat) : F32.roundMag 0 d = 0 := by
  simp [F32.roundMag, F32.scale, F32.roundDiv, F32.infMag]

/-- The units of a rounded result. -/
theorem f32_units_round (neg : Bool) (n d : Nat) : F32.units (F32.round neg n d) = magUnits (F32.roundMag n d) := by
  have := roundMag_le n d
  rw [f32_units_eq, F32.round, f32_mag_with _ _ (by omega)]

/-- A rounded result is finite exactly where its magnitude lies below infinity. -/
theorem f32_isFinite_round (neg : Bool) (n d : Nat) :
    F32.isFinite (F32.round neg n d) = true ↔ F32.roundMag n d < 0x7F800000 := by
  have := roundMag_le n d
  rw [f32_finite_iff, F32.round, f32_mag_with _ _ (by omega)]

/-- The bit 0 of a pattern is that of its magnitude. -/
theorem withSign_getLsbD_zero (neg : Bool) {m : Nat} (h : m < 2 ^ 31) (he : m % 2 = 0) :
    (F32.withSign neg m).getLsbD 0 = false := by
  rw [← BitVec.testBit_toNat, withSign_toNat neg m h, Nat.testBit_zero]
  cases neg <;> simp <;> omega

/-- The infinities written out. -/
theorem f32_inf_eq (neg : Bool) : F32.inf neg = if neg then 0xFF800000#32 else 0x7F800000#32 := by cases neg <;> decide

/-- Zero with a sign, written out. -/
theorem withSign_zero_eq (neg : Bool) : F32.withSign neg 0 = if neg then 0x80000000#32 else 0x00000000#32 := by
  cases neg <;> decide

/-- Two numbers of one sign lie as far apart as their magnitudes. -/
theorem abs_signed_sub (neg : Bool) (n m d : Nat) :
    |F32.signed neg n - F32.signed neg m * d| = |(n : Int) - m * d| := by
  cases neg
  · rfl
  · rw [← abs_neg]; simp only [F32.signed, if_true]; ring_nf

/-- Two numbers of opposite signs lie as far apart as their magnitudes together. -/
theorem abs_signed_sub_not (neg : Bool) (n m d : Nat) :
    |F32.signed neg n - F32.signed (!neg) m * d| = (n : Int) + m * d := by
  have h : (0 : Int) ≤ n + m * d := by positivity
  cases neg
  · rw [← abs_of_nonneg h]; simp [F32.signed]
  · rw [← abs_of_nonneg h, ← abs_neg]; simp only [F32.signed, Bool.not_true, if_true, Bool.false_eq_true, if_false]; ring_nf

/-- A finite number is one of the sign asked for, or one of the other sign and not zero. -/
theorem f32_value_cases (neg : Bool) {c : Word} (hc : F32.isFinite c = true) :
    (∃ m < 0x7F800000, F32.value c = F32.signed neg (magUnits m)) ∨
    ∃ u, 0 < u ∧ F32.value c = F32.signed (!neg) u := by
  by_cases hs : F32.signBit c = neg
  · exact .inl ⟨_, (f32_finite_iff c).mp hc, by rw [F32.value, hs, f32_units_eq]⟩
  · have hs : F32.signBit c = !neg := Bool.eq_not.mpr hs
    rcases Nat.eq_zero_or_pos (F32.units c) with h0 | hpos
    · refine .inl ⟨0, by decide, ?_⟩
      rw [F32.value, h0, show magUnits 0 = 0 by decide]
      cases neg <;> simp [F32.signed]
    · exact .inr ⟨_, hpos, by rw [F32.value, hs]⟩

/-- Rounding with the result's sign gives the exact result rounded to nearest, ties to even. -/
theorem nearestEven_round (neg : Bool) {n d : Nat} (hd : 0 < d) :
    F32.nearestEven (F32.signed neg n) d (F32.round neg n d) := by
  unfold F32.nearestEven
  rw [f32_abs_signed, f32_value_round, abs_signed_sub]
  refine ⟨fun hn => ?_, fun hn => ?_⟩
  · have hn : n < F32.overflowUnits * d := by exact_mod_cast hn
    have hfin := (roundMag_finite_iff hd).mpr hn
    refine ⟨(f32_isFinite_round neg n d).mpr hfin, fun c hc => ?_⟩
    rcases f32_value_cases neg hc with ⟨m, hm, hv⟩ | ⟨u, hu, hv⟩
    · rw [hv, abs_signed_sub]
      obtain ⟨hnear, heven⟩ := roundMag_nearest hd hn hm
      refine ⟨hnear, fun he hne => withSign_getLsbD_zero neg (by omega) (heven he ?_)⟩
      rintro rfl; exact hne rfl
    · rw [hv, abs_signed_sub_not]
      have hnear := (roundMag_nearest hd hn (show 0 < 0x7F800000 by decide)).1
      have hud : (0 : Int) < u * d := by positivity
      rw [show magUnits 0 = 0 by decide, Nat.cast_zero, zero_mul, sub_zero, Nat.abs_cast] at hnear
      exact ⟨by omega, fun he => by omega⟩
  · have hn : F32.overflowUnits * d ≤ n := by exact_mod_cast hn
    have hpos : 0 < n := Nat.lt_of_lt_of_le (Nat.mul_pos (by decide) hd) hn
    have hinf : F32.round neg n d = F32.inf neg := by
      have := roundMag_le n d
      have := mt (roundMag_finite_iff hd).mp (Nat.not_lt.mpr hn)
      rw [F32.round, F32.inf, F32.infMag, show F32.roundMag n d = 0x7F800000 by omega]
    rw [hinf, f32_inf_eq]
    cases neg <;> simp [F32.signed, hpos]

/-! ## The operations on finite numbers -/

/-- Negation flips the sign. -/
theorem f32_signBit_neg (a : Word) : F32.signBit (F32.neg a) = !F32.signBit a := by
  rw [F32.signBit, F32.neg, BitVec.getLsbD_xor, show (0x80000000#32).getLsbD 31 = true by decide, Bool.xor_true,
    F32.signBit]

/-- Negation keeps the magnitude. -/
theorem f32_neg_magnitude (a : Word) : (F32.neg a).toNat % 2 ^ 31 = a.toNat % 2 ^ 31 := by
  rw [F32.neg, BitVec.toNat_xor, Nat.xor_mod_two_pow]; simp

/-- Negation keeps finiteness. -/
theorem f32_isFinite_neg {a : Word} (h : F32.isFinite a = true) : F32.isFinite (F32.neg a) = true := by
  rw [f32_finite_iff, f32_neg_magnitude]; exact (f32_finite_iff a).mp h

/-- Negation negates the value. -/
theorem f32_value_neg (a : Word) : F32.value (F32.neg a) = -F32.value a := by
  rw [F32.value, F32.value, f32_signBit_neg, f32_units_eq, f32_units_eq, f32_neg_magnitude]
  cases F32.signBit a <;> simp [F32.signed]

/-- A value is zero exactly where its magnitude is. -/
theorem f32_value_eq_zero_iff (a : Word) : F32.value a = 0 ↔ F32.units a = 0 := by
  unfold F32.value F32.signed; split <;> simp

/-- The sign and the magnitude of a product. -/
theorem f32_signed_mul (s t : Bool) (m n : Nat) : F32.signed s m * F32.signed t n = F32.signed (s ^^ t) (m * n) := by
  cases s <;> cases t <;> simp [F32.signed]

/-- The sign of a value that is not zero, as a number. -/
theorem f32_sign_value {a : Word} (h : F32.units a ≠ 0) : (F32.value a).sign = F32.signed (F32.signBit a) 1 := by
  unfold F32.value
  cases F32.signBit a <;> simp [F32.signed, Int.sign_eq_one_iff_pos] <;> omega

/-- Addition of finite numbers: an exact zero has the sign of both, any other sum is rounded once. -/
theorem f32_add_finite {a b : Word} (ha : F32.isFinite a = true) (hb : F32.isFinite b = true) :
    F32.add a b = if F32.value a + F32.value b = 0 then F32.withSign (F32.signBit a && F32.signBit b) 0
      else F32.round (F32.value a + F32.value b < 0) (F32.value a + F32.value b).natAbs 1 := by
  simp [F32.add, f32_fin_no ha, f32_fin_no hb]

/-- Multiplication of finite numbers rounds the exact product once. -/
theorem f32_mul_finite {a b : Word} (ha : F32.isFinite a = true) (hb : F32.isFinite b = true) :
    F32.mul a b = F32.round (F32.signBit a ^^ F32.signBit b) (F32.units a * F32.units b) (2 ^ 149) := by
  simp [F32.mul, f32_fin_no ha, f32_fin_no hb]

/-- Division of finite numbers by one that is not zero rounds the exact quotient once. -/
theorem f32_div_finite {a b : Word} (ha : F32.isFinite a = true) (hb : F32.isFinite b = true) (h0 : F32.units b ≠ 0) :
    F32.div a b = F32.round (F32.signBit a ^^ F32.signBit b) (F32.units a * 2 ^ 149) (F32.units b) := by
  simp [F32.div, f32_fin_no ha, f32_fin_no hb, h0]

/-- Division of a finite number by zero. -/
theorem f32_div_by_zero {a b : Word} (ha : F32.isFinite a = true) (hb : F32.isFinite b = true) (h0 : F32.units b = 0) :
    F32.div a b = if F32.units a = 0 then F32.nan else F32.inf (F32.signBit a ^^ F32.signBit b) := by
  simp [F32.div, f32_fin_no ha, f32_fin_no hb, h0]

/-- The sum of finite numbers is rounded to nearest, ties to even. -/
theorem f32_add_nearestEven {a b : Word} (ha : F32.isFinite a = true) (hb : F32.isFinite b = true) :
    F32.nearestEven (F32.value a + F32.value b) 1 (F32.add a b) := by
  rw [f32_add_finite ha hb]
  split
  next h0 =>
    have := nearestEven_round (F32.signBit a && F32.signBit b) (n := 0) Nat.one_pos
    rw [F32.round, roundMag_zero] at this
    rw [h0]
    simpa [F32.signed] using this
  next =>
    have := nearestEven_round (decide (F32.value a + F32.value b < 0)) (n := (F32.value a + F32.value b).natAbs) Nat.one_pos
    rwa [f32_signed_natAbs] at this

/-- An exact zero sum is +0 unless both operands have sign 1. -/
theorem f32_add_eq_zero {a b : Word} (ha : F32.isFinite a = true) (hb : F32.isFinite b = true)
    (h : F32.value a + F32.value b = 0) :
    F32.add a b = if F32.signBit a && F32.signBit b then 0x80000000#32 else 0x00000000#32 := by
  rw [f32_add_finite ha hb, if_pos h, withSign_zero_eq]

/-- The product of finite numbers is rounded to nearest, ties to even. -/
theorem f32_mul_nearestEven {a b : Word} (ha : F32.isFinite a = true) (hb : F32.isFinite b = true) :
    F32.nearestEven (F32.value a * F32.value b) (2 ^ 149) (F32.mul a b) := by
  rw [f32_mul_finite ha hb, F32.value, F32.value, f32_signed_mul]
  exact nearestEven_round _ (Nat.two_pow_pos 149)

/-- The quotient of finite numbers by one that is not zero is rounded to nearest, ties to even. -/
theorem f32_div_nearestEven {a b : Word} (ha : F32.isFinite a = true) (hb : F32.isFinite b = true)
    (h0 : F32.units b ≠ 0) :
    F32.nearestEven ((F32.value b).sign * F32.value a * 2 ^ 149) (F32.units b) (F32.div a b) := by
  have hnum : (F32.value b).sign * F32.value a * 2 ^ 149 =
      F32.signed (F32.signBit a ^^ F32.signBit b) (F32.units a * 2 ^ 149) := by
    rw [f32_sign_value h0, F32.value, f32_signed_mul, Nat.one_mul, Bool.xor_comm]
    cases F32.signBit a ^^ F32.signBit b <;> simp [F32.signed]
  rw [hnum, f32_div_finite ha hb h0]
  exact nearestEven_round _ (Nat.pos_of_ne_zero h0)

/-- Settles O54: each operation on finite numbers rounds its exact result once, with the sign of that result. -/
theorem arithmeticRoundsToNearestEven : Obligations.ArithmeticRoundsToNearestEven := by
  refine ⟨fun a b ha hb => ?_, fun _ _ => rfl⟩
  have hb' := f32_isFinite_neg hb
  have hsub : F32.value a - F32.value b = F32.value a + F32.value (F32.neg b) := by rw [f32_value_neg]; rfl
  have hval0 := f32_value_eq_zero_iff
  refine ⟨f32_add_nearestEven ha hb, ?_, f32_mul_nearestEven ha hb,
    fun h => f32_div_nearestEven ha hb (mt (hval0 b).mpr h), f32_add_eq_zero ha hb, fun h => ?_, ?_, fun h => ?_, fun hb0 ha0 => ?_, fun hb0 ha0 => ?_⟩
  · rw [hsub]; exact f32_add_nearestEven ha hb'
  · rw [← f32_signBit_neg]; exact f32_add_eq_zero ha hb' (hsub ▸ h)
  · rw [f32_mul_finite ha hb, f32_sign_round]
  · rw [f32_div_finite ha hb (mt (hval0 b).mpr h), f32_sign_round]
  · rw [f32_div_by_zero ha hb ((hval0 b).mp hb0), if_neg (mt (hval0 a).mpr ha0), f32_inf_eq]
  · rw [f32_div_by_zero ha hb ((hval0 b).mp hb0), if_pos ((hval0 a).mp ha0)]; rfl

end Sys2Proof.Machine
end

section
/-! SUPPORT. The square root: the half-unit number the model rounds lies on the real root's side of every midpoint that
matters (R8, R18). -/

namespace Sys2Proof.Machine

/-! ## The square root -/

/-- Twice the root of a radicand, cut off: even where the root is whole, odd where it lies strictly between two whole
numbers. -/
def F32.doubleRoot (n : Nat) : Nat := if F32.isqrt n * F32.isqrt n = n then 2 * F32.isqrt n else 2 * F32.isqrt n + 1

/-- The square root of a positive finite number rounds half of `F32.doubleRoot` once. -/
theorem f32_sqrt_positive {a : Word} (ha : F32.isFinite a = true) (hs : F32.signBit a = false) (h0 : F32.units a ≠ 0) :
    F32.sqrt a = F32.round false (F32.doubleRoot (F32.units a * 2 ^ 149)) 2 := by
  simp [F32.sqrt, F32.doubleRoot, f32_fin_no ha, hs, h0]

/-- A finite pattern's units lie below 2^277. -/
theorem f32_units_lt {a : Word} (ha : F32.isFinite a = true) : F32.units a < 2 ^ 277 := by
  rw [f32_units_eq]; exact magUnits_bound _ ((f32_finite_iff a).mp ha)

/-- The integer square root lies between two numbers whose squares enclose the radicand. -/
theorem isqrt_bounds {n lo hi : Nat} (hlo : lo * lo ≤ n) (hhi : n < hi * hi) :
    lo ≤ F32.isqrt n ∧ F32.isqrt n < hi := by
  obtain ⟨h1, h2⟩ := isqrt_spec n
  exact ⟨Nat.le_of_lt_succ (Nat.mul_self_lt_mul_self_iff.mp (Nat.lt_of_le_of_lt hlo h2)),
    Nat.mul_self_lt_mul_self_iff.mp (Nat.lt_of_le_of_lt h1 hhi)⟩

/-- A whole number from `F32.doubleRoot` on, and even where it meets it, is at least twice the real root. -/
theorem two_mul_sqrt_le {n S : Nat} (h : F32.doubleRoot n ≤ S) (he : S = F32.doubleRoot n → S % 2 = 0) :
    2 * Real.sqrt n ≤ S := by
  have hle : n ≤ S / 2 * (S / 2) := by
    obtain ⟨h1, h2⟩ := isqrt_spec n
    unfold F32.doubleRoot at h he
    split at h
    next hsq => rw [← hsq]; exact Nat.mul_self_le_mul_self (by omega)
    next hsq =>
      rw [if_neg hsq] at he
      exact Nat.le_of_lt (Nat.lt_of_lt_of_le h2 (Nat.mul_self_le_mul_self (by omega)))
  have hroot : Real.sqrt n ≤ (S / 2 : Nat) := Real.sqrt_le_iff.mpr ⟨by positivity, by rw [sq]; exact_mod_cast hle⟩
  have hhalf : (2 * (S / 2 : Nat) : ℝ) ≤ S := by exact_mod_cast Nat.mul_div_le S 2
  linarith

/-- A whole number up to `F32.doubleRoot`, and even where it meets it, is at most twice the real root. -/
theorem le_two_mul_sqrt {n S : Nat} (h : S ≤ F32.doubleRoot n) (he : S = F32.doubleRoot n → S % 2 = 0) :
    S ≤ 2 * Real.sqrt n := by
  have hle : (S + 1) / 2 * ((S + 1) / 2) ≤ n := by
    have hroot : (S + 1) / 2 ≤ F32.isqrt n := by
      unfold F32.doubleRoot at h he
      split_ifs at h he <;> omega
    exact Nat.le_trans (Nat.mul_self_le_mul_self hroot) (isqrt_spec n).1
  have hroot : ((S + 1) / 2 : Nat) ≤ Real.sqrt n := Real.le_sqrt_of_sq_le (by rw [sq]; exact_mod_cast hle)
  have hhalf : (S : ℝ) ≤ 2 * ((S + 1) / 2 : Nat) := by exact_mod_cast (show S ≤ 2 * ((S + 1) / 2) by omega)
  linarith

/-- The radicand's root lies between 2^74 and 2^213, so its double between 2^75 and the overflow threshold. -/
theorem doubleRoot_bounds {u : Nat} (h0 : u ≠ 0) (hu : u < 2 ^ 277) :
    2 ^ 75 ≤ F32.doubleRoot (u * 2 ^ 149) ∧ F32.doubleRoot (u * 2 ^ 149) < F32.overflowUnits * 2 := by
  obtain ⟨hlo, hhi⟩ := isqrt_bounds (n := u * 2 ^ 149) (lo := 2 ^ 74) (hi := 2 ^ 213) (by omega) (by omega)
  have hbig : 2 * 2 ^ 213 < F32.overflowUnits * 2 := by decide
  unfold F32.doubleRoot
  split <;> omega

/-- The finite magnitude of 2^24 units, the first one from which on no magnitude is odd. -/
theorem magUnits_two_pow_24 : magUnits (2 ^ 24) = 2 ^ 24 := by decide

/-- Where a large `x / 2` is itself the midpoint of its rounded magnitude and another one, `x` is even: both magnitudes
have 2^24 units or more, and from there on none is odd. -/
theorem even_of_midpoint {x m : Nat} (hx : 2 ^ 75 ≤ x) (hn : x < F32.overflowUnits * 2) (hm : m < 0x7F800000)
    (h : magUnits (F32.roundMag x 2) + magUnits m = x) : x % 2 = 0 := by
  have hfin := (roundMag_finite_iff (by decide)).mpr hn
  obtain ⟨hbelow, habove⟩ := roundMag_midpoint (m := 2 ^ 24) (by decide) hn (by decide)
  have hR := magUnits_odd (F32.roundMag x 2) (by omega)
  have hodd := magUnits_odd m (by omega)
  rw [magUnits_two_pow_24] at hbelow habove
  rcases Nat.lt_trichotomy (F32.roundMag x 2) (2 ^ 24) with hlt | heq | hgt
  · have := magUnits_lt hlt (by omega)
    rw [magUnits_two_pow_24] at this
    have := (habove hlt).1
    omega
  · rw [heq, magUnits_two_pow_24] at h; omega
  · have := magUnits_lt hgt (by omega)
    rw [magUnits_two_pow_24] at this
    have := (hbelow hgt).1
    omega

/-- The rounded half of `F32.doubleRoot` is at least as near to the real root as any finite magnitude. -/
theorem roundMag_doubleRoot_nearest {n m : Nat} (hbig : 2 ^ 75 ≤ F32.doubleRoot n)
    (hover : F32.doubleRoot n < F32.overflowUnits * 2) (hm : m < 0x7F800000) :
    |Real.sqrt n - magUnits (F32.roundMag (F32.doubleRoot n) 2)| ≤ |Real.sqrt n - magUnits m| := by
  have hfin := (roundMag_finite_iff (by decide)).mpr hover
  have heven := even_of_midpoint hbig hover hm
  obtain ⟨hbelow, habove⟩ := roundMag_midpoint (by decide) hover hm
  generalize F32.roundMag (F32.doubleRoot n) 2 = R at *
  rcases Nat.lt_trichotomy m R with h | rfl | h
  · have hlt : (magUnits m : ℝ) < magUnits R := by exact_mod_cast magUnits_lt h (by omega)
    have := le_two_mul_sqrt (S := magUnits R + magUnits m) (by have := (hbelow h).1; omega) (fun he => he ▸ heven he)
    exact (abs_sub_le_abs_sub_iff_of_gt hlt).mpr (by exact_mod_cast this)
  · exact le_refl _
  · have hlt : (magUnits R : ℝ) < magUnits m := by exact_mod_cast magUnits_lt h (by omega)
    have := two_mul_sqrt_le (S := magUnits R + magUnits m) (by have := (habove h).1; omega) (fun he => he ▸ heven he)
    exact (abs_sub_le_abs_sub_iff_of_lt hlt).mpr (by exact_mod_cast this)

/-- Settles O53: no midpoint of two magnitudes lies strictly between the real root and the half of `F32.doubleRoot` that
is rounded in its place. -/
theorem squareRootIsNearest : Obligations.SquareRootIsNearest := by
  intro a ha hs h0
  obtain ⟨hbig, hover⟩ := doubleRoot_bounds h0 (f32_units_lt ha)
  have hfin := (roundMag_finite_iff (by decide)).mpr hover
  rw [f32_sqrt_positive ha hs h0, f32_units_round]
  refine ⟨(f32_isFinite_round _ _ _).mpr hfin, f32_sign_round _ _ _, fun m hm => ?_⟩
  exact_mod_cast roundMag_doubleRoot_nearest hbig hover hm

end Sys2Proof.Machine
end

section
/-! SUPPORT. What TIMER's step can do, said once beside the effects of HOST and SEQ, and the step by agent and effect
(R13, R501 to R504). -/

namespace Sys2Proof.Machine

/-- What TIMER's step can do to the block, in a run that counts time or not: one case per kind of effect, with the
condition under which it has it. An event takes TIMER back to 0 where clock edges are counted. -/
inductive TimerEffect (timed : Bool) (b : Block) : Block → Prop where
  | stopped (h : b.tickEn = false) : TimerEffect timed b { b with timer := if timed then 0#32 else b.timer }
  | counted (ht : timed = true) (h : b.tickEn = true) (hne : b.timer ≠ b.period - 1#32) :
      TimerEffect timed b { b with timer := b.timer + 1#32 }
  | started (h : b.tickEn = true) (hw : timed = true → b.timer = b.period - 1#32) (hp : b.phase = .idle) :
      TimerEffect timed b { b with timer := if timed then 0#32 else b.timer }.startTick
  | dropped (h : b.tickEn = true) (hw : timed = true → b.timer = b.period - 1#32) (hp : b.phase ≠ .idle) :
      TimerEffect timed b
        ({ b with timer := if timed then 0#32 else b.timer, missed := saturatingIncr b.missed }.raise
          .tickOverrun b.tickCount)

/-- A timer event starts a tick or is dropped (R502, R503). -/
theorem timerEvent_effect {timed : Bool} {b : Block} (h : b.tickEn = true)
    (hw : timed = true → b.timer = b.period - 1#32) :
    TimerEffect timed b { b with timer := if timed then 0#32 else b.timer }.timerEvent := by
  by_cases hp : b.phase = .idle
  · rw [timerEvent_idle (by exact hp)]; exact .started h hw hp
  · rw [timerEvent_busy (by exact hp)]; exact .dropped h hw hp

/-- A clock edge (R501). -/
theorem clockEdge_effect (b : Block) : TimerEffect true b b.clockEdge := by
  unfold Block.clockEdge
  split_ifs with htick hwrap
  · exact .stopped (by simpa using htick)
  · exact timerEvent_effect (timed := true) (by simpa using htick) fun _ => hwrap
  · exact .counted rfl (by simpa using htick) hwrap

/-- TIMER's step has one of these effects on the block (R13). -/
theorem timerStep_effect (s : State) : TimerEffect s.env.timed s.blk s.timerStep.blk := by
  unfold State.timerStep
  split_ifs with htimed htick
  · rw [htimed]; exact clockEdge_effect s.blk
  all_goals rw [Bool.not_eq_true] at htimed; rw [htimed]
  · exact timerEvent_effect htick nofun
  · exact .stopped (by simpa using htick)

/-- TIMER's step touches nothing beside the block. -/
@[simp] theorem timerStep_env (s : State) : s.timerStep.env = s.env := by
  unfold State.timerStep; split_ifs <;> rfl

/-- What one step does to the block, by the agent whose turn it is. -/
inductive BlockEffect (timed : Bool) : List Event → Block → Block → Prop where
  | nothing (b : Block) : BlockEffect timed [] b b
  | host {a : Access} {rest : List Event} {b c : Block} (h : HostEffect a b c) :
      BlockEffect timed (.host a :: rest) b c
  | timer {rest : List Event} {b c : Block} (h : TimerEffect timed b c) : BlockEffect timed (.timer :: rest) b c
  | seq {reply : Word} {rest : List Event} {b c : Block} (h : SeqEffect reply b c) :
      BlockEffect timed (.seq reply :: rest) b c
  | reset {n : Nat} {rest : List Event} (b : Block) (h : Config.pRstCycles ≤ n) :
      BlockEffect timed (.reset n :: rest) b Block.reset

/-- Every step has one of these effects. -/
theorem step_blockEffect {s t : State} (h : step s = .next t) :
    BlockEffect s.env.timed s.env.agenda s.blk t.blk := by
  rcases step_cases h with ⟨ha, rfl⟩ | ⟨a, rest, ha, he, -⟩ | ⟨rest, ha, rfl⟩ | ⟨reply, rest, ha, he, -⟩ |
    ⟨n, rest, ha, hn, rfl⟩ <;> rw [ha]
  · exact .nothing _
  · exact .host he
  · exact .timer (timerStep_effect (s.popped rest))
  · exact .seq he
  · exact .reset _ hn

end Sys2Proof.Machine
end

section
/-! SUPPORT. The invariant of the block: it holds after reset, and the effect of every step keeps it (R104, R105, R109, R117,
R140, R331, R510 to R517). -/

namespace Sys2Proof.Machine

/-! ## The operations HOST and TIMER share -/

/-- An error recorded is a cause other than NONE, so ERR_INFO may hold its information word (R810). -/
theorem raise_inv {b : Block} {e : Cause} (info : Word) (he : e ≠ .noError) (h : b.Inv) : (b.raise e info).Inv := by
  obtain ⟨hstop, hperiod, -, hrest⟩ := h
  rw [raise_writes]
  refine ⟨hstop, hperiod, fun hc => absurd hc ?_, hrest⟩
  rw [raise_errCause]
  split <;> assumption

/-- TIMER at 0 is right in every block (R109). -/
theorem timer_zero_inv {b : Block} (h : b.Inv) : { b with timer := 0#32 }.Inv := by
  obtain ⟨-, -, hrest⟩ := h
  exact ⟨fun _ => rfl, fun hp => (BitVec.pos_iff_ne_zero _).mpr hp, hrest⟩

/-- In a phase the clauses about the tick do not name, with nothing held, those clauses say nothing. -/
theorem inv_of_phase {b : Block} (hp : b.phase ∉ [.settgt, .getvel, .getraw, .commit])
    (hstop : b.tickEn = false → b.timer = 0#32) (hperiod : b.period ≠ 0#32 → b.timer < b.period)
    (herr : b.errCause = .noError → b.errInfo = 0#32) (hheld : b.heldTarget = none)
    (hlast : b.lastPwm.extractLsb' 16 16 = 0#16) : b.Inv := by
  simp only [List.mem_cons, List.not_mem_nil, not_or] at hp
  obtain ⟨hset, hvel, hraw, hcommit, -⟩ := hp
  exact ⟨hstop, hperiod, herr, fun h => absurd h hset, fun _ => hheld, fun h => absurd h (by simp [hvel, hraw, hcommit]),
    fun h => absurd h hraw, fun ⟨h, _⟩ => absurd h hcommit, hlast⟩

/-- The start of a tick enters SETTGT only with a setpoint pending (R510). -/
theorem startTick_inv {b : Block} (hp : b.phase = .idle) (h : b.Inv) : b.startTick.Inv := by
  obtain ⟨hstop, hperiod, herr, -, hheld, -, -, -, hlast⟩ := h
  have hnone : b.heldTarget = none := hheld (by simp [hp])
  unfold Block.startTick
  split
  next hsp => exact ⟨hstop, hperiod, herr, fun _ => hsp, fun _ => hnone, nofun, nofun, nofun, hlast⟩
  next => exact inv_of_phase (by simp) hstop hperiod herr hnone hlast

/-! ## The agents -/

/-- A write of SETPOINT in SETTGT may hold the request word, and leaves a setpoint pending (R331, R729). -/
theorem setpointWritten_inv {b : Block} (w : Word) (h : b.Inv) : (b.setpointWritten w).Inv := by
  obtain ⟨hstop, hperiod, herr, -, hheld, hrest⟩ := h
  refine ⟨hstop, hperiod, herr, fun _ => rfl, fun hp => ?_, hrest⟩
  rw [setpointWritten_phase] at hp
  rw [setpointWritten_heldTarget, if_neg hp]
  exact hheld hp

/-- A write of CTRL clears TIMER where it changes TICK_EN (R704). -/
theorem ctrl_inv {b : Block} (en : Bool) (h : b.Inv) :
    { b with tickEn := en, timer := if b.tickEn = en then b.timer else 0#32 }.Inv := by
  split
  next he => subst he; exact h
  next =>
    obtain ⟨-, hperiod, hrest⟩ := timer_zero_inv h
    exact ⟨fun _ => rfl, hperiod, hrest⟩

/-- A write of CFG lands only with no tick in progress, where no clause reads it (R712). -/
theorem cfg_inv {b : Block} (x : Cfg) (hp : b.phase = .idle) (h : b.Inv) : { b with cfg := x }.Inv := by
  obtain ⟨hstop, hperiod, herr, -, hheld, -, -, -, hlast⟩ := h
  exact inv_of_phase (by simp [hp]) hstop hperiod herr (hheld (by simp [hp])) hlast

/-- A write of PERIOD lands only while TIMER stands at 0 (R109, R712). -/
theorem period_inv {b : Block} (w : Word) (htick : b.tickEn = false) (h : b.Inv) : { b with period := w }.Inv := by
  obtain ⟨hstop, -, hrest⟩ := h
  refine ⟨hstop, fun hw => ?_, hrest⟩
  rw [show ({ b with period := w } : Block).timer = 0#32 from hstop htick]
  exact (BitVec.pos_iff_ne_zero w).mpr hw

/-- A window stands in no clause. -/
theorem setWindow_inv {b : Block} (w : Win) (x : Window) (h : b.Inv) : (b.setWindow w x).Inv := by
  cases w <;> exact h

/-- Every host access keeps the invariant: most registers stand in no clause. -/
theorem hostEffect_inv {a : Access} {b c : Block} (he : HostEffect a b c) (h : b.Inv) : c.Inv := by
  cases he with
  | raised _ _ _ info he => exact raise_inv info he h
  | ctrl _ w => exact ctrl_inv _ h
  | errCause _ w => obtain ⟨hstop, hperiod, -, hrest⟩ := h; exact ⟨hstop, hperiod, fun _ => rfl, hrest⟩
  | cfg _ w hl => exact cfg_inv _ (locked_eq_false.mp hl).2 h
  | period _ w hl => exact period_inv w (locked_eq_false.mp hl).1 h
  | setpoint _ w => exact setpointWritten_inv w h
  | window _ w x _ _ _ => exact setWindow_inv w x h
  | start _ hl => exact startTick_inv (locked_eq_false.mp hl).2 h
  | same | status | irqEn | missed | data | result | snap => exact h

/-- A count below PERIOD − 1 stays below PERIOD after a clock edge (R109, R501). -/
theorem timer_add_one_lt {t p : Word} (h : t < p) (hne : t ≠ p - 1#32) : t + 1#32 < p := by
  bv_omega

/-- TIMER's step keeps the invariant. -/
theorem timerEffect_inv {timed : Bool} {b c : Block} (he : TimerEffect timed b c) (h : b.Inv) : c.Inv := by
  have hrestart : { b with timer := if timed then 0#32 else b.timer }.Inv := by
    cases timed
    · exact h
    · exact timer_zero_inv h
  cases he with
  | stopped => exact hrestart
  | counted _ htick hne =>
    obtain ⟨-, hperiod, hrest⟩ := h
    exact ⟨fun hoff => absurd htick (by simp [show b.tickEn = false from hoff]),
      fun hp => timer_add_one_lt (hperiod hp) hne, hrest⟩
  | started _ _ hp => exact startTick_inv hp hrestart
  | dropped _ _ _ => exact raise_inv _ (by decide) hrestart

/-- PWMWR leaves in L_PWM the clamped output (R515). -/
theorem pwmSent_inv {b : Block} (hp : b.phase = .pwmwr) (h : b.Inv) : b.pwmSent.Inv := by
  obtain ⟨hstop, hperiod, herr, -, hheld, -, -, -, hlast⟩ := h
  have hsent : { b with lPwm := saturate b.lOut b.cfg.pwmMax, phase := .getvel }.Inv :=
    ⟨hstop, hperiod, herr, nofun, fun _ => hheld (by simp [hp]), fun _ => rfl, nofun, nofun, hlast⟩
  unfold Block.pwmSent
  dsimp only
  split
  · exact raise_inv _ (by decide) hsent
  · exact hsent

/-- GETVEL goes on by DUTY_SRC, with the value sent as the duty sample where it is 1 (R516). -/
theorem gotVel_inv {b : Block} (reply : Word) (hp : b.phase = .getvel) (h : b.Inv) : (b.gotVel reply).Inv := by
  obtain ⟨hstop, hperiod, herr, -, hheld, hpwm, -, -, hlast⟩ := h
  have hnone : b.heldTarget = none := hheld (by simp [hp])
  have hclamp : b.lPwm = saturate b.lOut b.cfg.pwmMax := hpwm (.inl hp)
  unfold Block.gotVel
  split
  next => exact ⟨hstop, hperiod, herr, nofun, fun _ => hnone, fun _ => hclamp, nofun, fun _ => rfl, hlast⟩
  next hsrc =>
    exact ⟨hstop, hperiod, herr, nofun, fun _ => hnone, fun _ => hclamp, fun _ => by simpa using hsrc, nofun, hlast⟩

/-- GETRAW's reply is the duty sample, since DUTY_SRC = 0 there (R517). -/
theorem gotRaw_inv {b : Block} (reply : Word) (hp : b.phase = .getraw) (h : b.Inv) : (b.gotRaw reply).Inv := by
  obtain ⟨hstop, hperiod, herr, -, hheld, hpwm, hraw, -, hlast⟩ := h
  exact ⟨hstop, hperiod, herr, nofun, fun _ => hheld (by simp [hp]), fun _ => hpwm (.inr (.inl hp)), nofun,
    fun ⟨_, hsrc⟩ => absurd hsrc (by simp [hraw hp]), hlast⟩

/-- SEQ's step keeps the invariant. -/
theorem seqEffect_inv {reply : Word} {b c : Block} (he : SeqEffect reply b c) (h : b.Inv) : c.Inv := by
  have ⟨hstop, hperiod, herr, _, hheld, _, _, _, hlast⟩ := h
  cases he with
  | idle => exact h
  | settgt => exact inv_of_phase (by simp) hstop hperiod herr rfl hlast
  | refresh hp => exact inv_of_phase (by simp) hstop hperiod herr (hheld (by simp [hp])) hlast
  | compute hp => exact inv_of_phase (by simp) hstop hperiod herr (hheld (by simp [hp])) hlast
  | getout hp => exact inv_of_phase (by simp) hstop hperiod herr (hheld (by simp [hp])) hlast
  | pwmwr hp => exact pwmSent_inv hp h
  | getvel hp => exact gotVel_inv reply hp h
  | getraw hp => exact gotRaw_inv reply hp h
  | commit hp =>
    refine inv_of_phase (by simp) hstop hperiod herr (hheld (by simp [hp])) ?_
    rw [commit_lastPwm, zeroExtend_16]
    exact BitVec.extractLsb'_append_eq_left

/-- Settles O43: no clause but those on TIMER and the errors says anything in IDLE, and R140 meets them. -/
theorem resetSatisfiesTheInvariant : Obligations.ResetSatisfiesTheInvariant :=
  inv_of_phase (b := Block.reset) (by decide) (fun _ => rfl) (fun hp => (BitVec.pos_iff_ne_zero _).mpr hp)
    (fun _ => rfl) rfl (by decide)

/-- The effect of any agent's step keeps the invariant. -/
theorem blockEffect_inv {timed : Bool} {agenda : List Event} {b c : Block} (he : BlockEffect timed agenda b c)
    (h : b.Inv) : c.Inv := by
  cases he with
  | nothing => exact h
  | host he => exact hostEffect_inv he h
  | timer he => exact timerEffect_inv he h
  | seq he => exact seqEffect_inv he h
  | reset => exact resetSatisfiesTheInvariant

/-- Settles O42: each agent's effect on the block keeps the invariant. -/
theorem everyStepKeepsTheInvariant : Obligations.EveryStepKeepsTheInvariant :=
  fun _ _ h hstep => blockEffect_inv (step_blockEffect hstep) h

end Sys2Proof.Machine
end

section
/-! SUPPORT. What each agent leaves alone: the captured error, the windows, SETPOINT, DATA and SP_PENDING, TICK_COUNT, and
the PWM port (R104, R112, R123, R508, R518, R813). -/

namespace Sys2Proof.Machine

/-! ## TIMER -/

/-- TIMER's step writes no window, no operand of the host, not SP_PENDING, and not TICK_COUNT (R502, R503). -/
theorem timerEffect_frame {timed : Bool} {b c : Block} (he : TimerEffect timed b c) :
    c.vw = b.vw ∧ c.dw = b.dw ∧ c.setpoint = b.setpoint ∧ c.data = b.data ∧ c.spPending = b.spPending ∧
      c.tickCount = b.tickCount := by
  cases he with
  | stopped | counted | started => exact ⟨rfl, rfl, rfl, rfl, rfl, rfl⟩
  | dropped => simp

/-! ## The captured error -/

/-- A host access but the write of ERR_CAUSE keeps a captured error (R810, R813). -/
theorem hostEffect_captured {a : Access} {b c : Block} (he : HostEffect a b c) (hb : b.errCause ≠ .noError)
    (ha : ∀ w, a ≠ .write 0x00C#12 fullStrobe w) : c.errCause = b.errCause ∧ c.errInfo = b.errInfo := by
  cases he with
  | raised => exact raise_captured hb
  | errCause _ w => exact absurd rfl (ha w)
  | window => simp
  | same | ctrl | status | irqEn | cfg | period | missed | setpoint | data | result | snap | start => exact ⟨rfl, rfl⟩

/-- TIMER keeps a captured error (R810). -/
theorem timerEffect_captured {timed : Bool} {b c : Block} (he : TimerEffect timed b c) (hb : b.errCause ≠ .noError) :
    c.errCause = b.errCause ∧ c.errInfo = b.errInfo := by
  cases he with
  | stopped | counted | started => exact ⟨rfl, rfl⟩
  | dropped => exact raise_captured (b := { b with timer := _, missed := _ }) hb

/-- The clamp of PWMWR keeps a captured error (R515, R810). -/
theorem pwmSent_captured {b : Block} (hb : b.errCause ≠ .noError) :
    b.pwmSent.errCause = b.errCause ∧ b.pwmSent.errInfo = b.errInfo := by
  unfold Block.pwmSent
  dsimp only
  split
  · exact raise_captured (b := { b with lPwm := _, phase := _ }) hb
  · exact ⟨rfl, rfl⟩

/-- SEQ keeps a captured error (R810, R825). -/
theorem seqEffect_captured {reply : Word} {b c : Block} (he : SeqEffect reply b c) (hb : b.errCause ≠ .noError) :
    c.errCause = b.errCause ∧ c.errInfo = b.errInfo := by
  cases he with
  | pwmwr => exact pwmSent_captured hb
  | idle | settgt | refresh | compute | getout | getvel | getraw | commit => simp

/-- The effect of any agent's step but the two that clear ERR_CAUSE keeps a captured error. -/
theorem blockEffect_captured {timed : Bool} {agenda : List Event} {b c : Block} (he : BlockEffect timed agenda b c)
    (hb : b.errCause ≠ .noError) (hw : ∀ w rest, agenda ≠ .host (.write 0x00C#12 fullStrobe w) :: rest)
    (hr : ∀ n rest, agenda ≠ .reset n :: rest) : c.errCause = b.errCause ∧ c.errInfo = b.errInfo := by
  cases he with
  | nothing => exact ⟨rfl, rfl⟩
  | @host a rest _ _ he => exact hostEffect_captured he hb fun w ha => hw w rest (by rw [ha])
  | timer he => exact timerEffect_captured he hb
  | seq he => exact seqEffect_captured he hb
  | @reset n rest => exact absurd rfl (hr n rest)

/-- Settles O39: `raise` alone writes the two registers beside the write of ERR_CAUSE and reset, and it keeps a captured
error. -/
theorem capturedErrorOutlivesEveryStep : Obligations.CapturedErrorOutlivesEveryStep :=
  fun _ _ hb hstep hw hr => blockEffect_captured (step_blockEffect hstep) hb hw hr

/-! ## The windows -/

/-- A host access writes a window only as PUSH or CLEAR of a stopped block (R123, R600). -/
theorem hostEffect_windows {a : Access} {b c : Block} (he : HostEffect a b c) :
    (c.vw = b.vw ∧ c.dw = b.dw) ∨
      ∃ x, a = .write 0x034#12 fullStrobe x ∧ x ∈ [0x00000001#32, 0x00000011#32, 0x00000005#32, 0x00000015#32] ∧
        b.tickEn = false ∧ b.phase = .idle := by
  cases he with
  | window _ w _ op hop hl =>
    refine .inr ⟨_, rfl, ?_, locked_eq_false.mp hl⟩
    rcases hop with rfl | rfl <;> cases w <;> decide
  | raised => exact .inl (by simp)
  | same | ctrl | status | errCause | irqEn | cfg | period | missed | setpoint | data | result | snap | start =>
    exact .inl ⟨rfl, rfl⟩

/-- SEQ writes the windows in COMMIT only (R123, R518). -/
theorem seqEffect_windows {reply : Word} {b c : Block} (he : SeqEffect reply b c) (hp : b.phase ≠ .commit) :
    c.vw = b.vw ∧ c.dw = b.dw := by
  cases he with
  | commit h => exact absurd h hp
  | idle | settgt | refresh | compute | getout | pwmwr | getvel | getraw => simp

/-- A changed window names the agent that wrote it (R123). -/
theorem blockEffect_windows {timed : Bool} {agenda : List Event} {b c : Block} (he : BlockEffect timed agenda b c)
    (hne : c.vw ≠ b.vw ∨ c.dw ≠ b.dw) :
    (∃ reply rest, agenda = .seq reply :: rest ∧ b.phase = .commit) ∨ (∃ n rest, agenda = .reset n :: rest) ∨
    (∃ x rest, agenda = .host (.write 0x034#12 fullStrobe x) :: rest ∧
      x ∈ [0x00000001#32, 0x00000011#32, 0x00000005#32, 0x00000015#32] ∧ b.tickEn = false ∧ b.phase = .idle) := by
  have hsame : ¬ (c.vw = b.vw ∧ c.dw = b.dw) := not_and_or.mpr hne
  cases he with
  | nothing => exact absurd ⟨rfl, rfl⟩ hsame
  | @host a rest _ _ he =>
    obtain ⟨x, rfl, hx⟩ := (hostEffect_windows he).resolve_left hsame
    exact .inr (.inr ⟨x, rest, rfl, hx⟩)
  | timer he =>
    obtain ⟨hvw, hdw, -⟩ := timerEffect_frame he
    exact absurd ⟨hvw, hdw⟩ hsame
  | @seq reply rest _ _ he => exact .inl ⟨reply, rest, rfl, by_contra fun hp => hsame (seqEffect_windows he hp)⟩
  | @reset n rest => exact .inr (.inl ⟨n, rest, rfl⟩)

/-- Settles O44: by the agent whose step it was. -/
theorem windowsAreWrittenOnlyByTheirOwners : Obligations.WindowsAreWrittenOnlyByTheirOwners :=
  fun _ _ hstep hne => blockEffect_windows (step_blockEffect hstep) hne

/-! ## SETPOINT, DATA and SP_PENDING -/

/-- A host access writes SETPOINT only as the write of it (R112, R729). -/
theorem hostEffect_setpoint {a : Access} {b c : Block} (he : HostEffect a b c) (hne : c.setpoint ≠ b.setpoint) :
    a = .write 0x02C#12 fullStrobe c.setpoint := by
  cases he with
  | setpoint => rfl
  | raised | window => simp at hne
  | same | ctrl | status | errCause | irqEn | cfg | period | missed | data | result | snap | start =>
    exact absurd rfl hne

/-- A host access writes DATA only as the write of it (R113, R731). -/
theorem hostEffect_data {a : Access} {b c : Block} (he : HostEffect a b c) (hne : c.data ≠ b.data) :
    a = .write 0x030#12 fullStrobe c.data := by
  cases he with
  | data => rfl
  | raised | window => simp at hne
  | same | ctrl | status | errCause | irqEn | cfg | period | missed | setpoint | result | snap | start =>
    exact absurd rfl hne

/-- No host access takes SP_PENDING back (R132). -/
theorem hostEffect_spPending {a : Access} {b c : Block} (he : HostEffect a b c) (hb : b.spPending = true) :
    c.spPending = true := by
  cases he with
  | setpoint => rfl
  | raised | window => simpa using hb
  | same | ctrl | status | errCause | irqEn | cfg | period | missed | data | result | snap | start => exact hb

/-- SEQ writes neither SETPOINT nor DATA, and SP_PENDING in SETTGT only (R132, R511). -/
theorem seqEffect_setpoint {reply : Word} {b c : Block} (he : SeqEffect reply b c) :
    c.setpoint = b.setpoint ∧ c.data = b.data ∧ (b.phase ≠ .settgt → c.spPending = b.spPending) := by
  cases he with
  | settgt h => exact ⟨rfl, rfl, fun hp => absurd h hp⟩
  | idle | refresh | compute | getout | pwmwr | getvel | getraw | commit => simp

/-- A changed SETPOINT, DATA or SP_PENDING taken back names the step that did it (R112, R132, R213). -/
theorem blockEffect_setpoint {timed : Bool} {agenda : List Event} {b c : Block} (he : BlockEffect timed agenda b c)
    (hr : ∀ n rest, agenda ≠ .reset n :: rest) :
    (c.setpoint ≠ b.setpoint →
      ∃ w rest, agenda = .host (.write 0x02C#12 fullStrobe w) :: rest ∧ c.setpoint = w) ∧
    (c.data ≠ b.data → ∃ w rest, agenda = .host (.write 0x030#12 fullStrobe w) :: rest ∧ c.data = w) ∧
    (b.spPending = true → c.spPending = false → ∃ reply rest, agenda = .seq reply :: rest ∧ b.phase = .settgt) := by
  cases he with
  | nothing => exact ⟨fun h => absurd rfl h, fun h => absurd rfl h, fun h h' => by simp [h] at h'⟩
  | @host a rest _ _ he =>
    refine ⟨fun h => ⟨_, rest, by rw [hostEffect_setpoint he h], rfl⟩,
      fun h => ⟨_, rest, by rw [hostEffect_data he h], rfl⟩, fun h h' => ?_⟩
    rw [hostEffect_spPending he h] at h'
    cases h'
  | timer he =>
    obtain ⟨-, -, hset, hdata, hsp, -⟩ := timerEffect_frame he
    exact ⟨fun h => absurd hset h, fun h => absurd hdata h, fun h h' => by simp [hsp, h] at h'⟩
  | @seq reply rest _ _ he =>
    obtain ⟨hset, hdata, hsp⟩ := seqEffect_setpoint he
    refine ⟨fun h => absurd hset h, fun h => absurd hdata h, fun h h' => ⟨reply, rest, rfl, ?_⟩⟩
    by_contra hp
    simp [hsp hp, h] at h'
  | @reset n rest => exact absurd rfl (hr n rest)

/-- Settles O46: by the agent whose step it was. -/
theorem setpointHasOneWriter : Obligations.SetpointHasOneWriter :=
  fun _ _ hstep hr => blockEffect_setpoint (step_blockEffect hstep) hr

/-! ## TICK_COUNT -/

/-- No host access writes TICK_COUNT (R110). -/
theorem hostEffect_tickCount {a : Access} {b c : Block} (he : HostEffect a b c) : c.tickCount = b.tickCount := by
  cases he with
  | raised | window => simp
  | same | ctrl | status | errCause | irqEn | cfg | period | missed | setpoint | data | result | snap | start => rfl

/-- SEQ counts a tick in COMMIT only (R518). -/
theorem seqEffect_tickCount {reply : Word} {b c : Block} (he : SeqEffect reply b c) :
    c.tickCount = b.tickCount + (if b.phase = .commit then 1#32 else 0#32) := by
  cases he with
  | idle h | settgt h | refresh h | compute h | getout h | pwmwr h | getvel h | getraw h | commit h => simp [h]

/-- Any step but reset leaves TICK_COUNT, or is SEQ's COMMIT (R110, R518). -/
theorem blockEffect_tickCount {timed : Bool} {agenda : List Event} {b c : Block} (he : BlockEffect timed agenda b c)
    (hr : ∀ n rest, agenda ≠ .reset n :: rest) :
    c.tickCount = b.tickCount +
      (if b.phase = .commit ∧ (agenda.head?.map Event.isSeq) = some true then 1#32 else 0#32) := by
  cases he with
  | nothing => simp
  | host he => simp [Event.isSeq, hostEffect_tickCount he]
  | timer he =>
    obtain ⟨-, -, -, -, -, hcount⟩ := timerEffect_frame he
    simp [Event.isSeq, hcount]
  | seq he => simp [Event.isSeq, seqEffect_tickCount he]
  | @reset n rest => exact absurd rfl (hr n rest)

/-- Settles O49: by the agent whose step it was. -/
theorem tickCountCountsCommits : Obligations.TickCountCountsCommits :=
  fun _ _ hstep hr => blockEffect_tickCount (step_blockEffect hstep) hr

/-! ## The PWM port -/

/-- The block asserts a PWM request in PWMWR only (R508, R515). -/
theorem pwmRequest_cases (b : Block) :
    b.pwmRequest = none ∨
      b.phase = .pwmwr ∧ b.pwmRequest = some (b.cfg.pwmCh ++ saturate b.lOut b.cfg.pwmMax) := by
  unfold Block.pwmRequest
  split
  next hp => exact .inr ⟨hp, rfl⟩
  all_goals exact .inl rfl

/-- Settles O47: only SEQ writes the log, with the request its phase asserts, and the clamp bounds the value sent. -/
theorem pwmValuesStayInRange : Obligations.PwmValuesStayInRange := by
  intro s t hstep
  rcases step_cases hstep with ⟨-, rfl⟩ | ⟨a, rest, -, -, -, -, -, -, hlog⟩ | ⟨rest, -, rfl⟩ |
    ⟨reply, rest, ha, -, -, -, -, -, -, hlog⟩ | ⟨n, rest, -, -, rfl⟩
  · exact .inl rfl
  · exact .inl hlog
  · exact .inl (by simp)
  · rcases pwmRequest_cases s.blk with hnone | ⟨hp, hsome⟩
    · exact .inl (by simpa [hnone] using hlog)
    · exact .inr ⟨reply, rest, _, ha, hp, by simpa [hsome] using hlog, saturate_le _ _⟩
  · exact .inl rfl

end Sys2Proof.Machine
end

section
/-! SUPPORT. The STATUS word field by field, and the values reset forces (R130, R131, R140, R705). -/

namespace Sys2Proof.Machine

/-- Bits 11:8 of STATUS are the phase code (R705). -/
theorem statusWord_phase (b : Block) : b.statusWord.extractLsb' 8 4 = b.phase.code := by
  apply BitVec.eq_of_getLsbD_eq
  intro k hk
  rw [BitVec.getLsbD_extractLsb', status_high b (8 + k) (by omega)]
  simp [hk, show 8 + k < 12 by omega]

/-- Bits 31:12 of STATUS read 0 (R705). -/
theorem statusWord_reserved (b : Block) : b.statusWord.extractLsb' 12 20 = 0#20 := by
  apply BitVec.eq_of_getLsbD_eq
  intro k hk
  rw [BitVec.getLsbD_extractLsb', status_high b (12 + k) (by omega)]
  simp

/-- The phase codes as R130 lists them. -/
theorem phase_code_iff (p : Phase) (code : BitVec 4) :
    (p, code) ∈ [(Phase.idle, 0#4), (.settgt, 1#4), (.refresh, 2#4), (.compute, 3#4), (.getout, 4#4), (.pwmwr, 5#4),
      (.getvel, 6#4), (.getraw, 7#4), (.commit, 8#4)] ↔ p.code = code := by
  cases p <;> simp [Phase.code, eq_comm (a := code)]

/-- BUSY is the phase's not being IDLE (R131). -/
theorem busy_eq_decide (b : Block) : b.busy = decide (b.phase ≠ .idle) := by
  by_cases hp : b.phase = .idle <;> simp [Block.busy, hp]

/-- Settles O10: each field by the bits of STATUS. -/
theorem statusWordFields : Obligations.StatusWordFields := by
  intro b
  obtain ⟨hbusy, hsp, htick, hover, hcmd, hcfg, hbus, hsat⟩ := status_low b
  refine ⟨hbusy.trans (busy_eq_decide b), hsp, htick, hover, hcmd, hcfg, hbus, hsat, statusWord_phase b,
    statusWord_reserved b, fun code => ?_⟩
  rw [statusWord_phase]
  exact phase_code_iff b.phase code

/-- Reset's turn, with a pulse long enough (R900). -/
theorem step_reset {s : State} {n : Nat} {rest : List Event} (h : s.env.agenda = .reset n :: rest)
    (hn : Config.pRstCycles ≤ n) : step s = .next { blk := Block.reset, env := { s.env with agenda := rest } } := by
  rw [step_eq_outcome]
  unfold nextAction
  simp only [h, Action.outcome, resetStep, if_neg (Nat.not_lt.mpr hn)]

/-- Settles O50: the reset block is R140's table, and each register word is read off it. -/
theorem resetForcesTheResetValues : Obligations.ResetForcesTheResetValues := by
  intro s n rest ha hn
  refine ⟨Block.reset, step_reset ha hn, ?_⟩
  and_intros <;> rfl

end Sys2Proof.Machine
end

section
/-! SUPPORT. Host accesses: what a decoded read or write answers, and HOST's step by R205's four conditions (R202 to R205,
R209, R700). -/

namespace Sys2Proof.Machine

/-! ## Reads -/

/-- A decoded read, but that of a TIMER running without time, answers the register at its offset (R209, R700). -/
theorem read_answersRegister {off : Offset} {i : Instr} (s : State) (h : decodeReadAt off = .ok i)
    (hi : i = .rdTimer → s.blk.tickEn = false ∨ s.env.timed = true) :
    ∃ v, s.blk.regAt off = some v ∧ exec i s = .next (s.answered s.blk (.done (some v))) := by
  unfold decodeReadAt at h
  split at h
  case h_9 =>
    cases h
    have hexact : ¬ (s.blk.tickEn && !s.env.timed) = true := by rcases hi rfl with h | h <;> simp [h]
    exact ⟨_, rfl, if_neg hexact⟩
  case h_33 => cases h
  all_goals cases h; exact ⟨_, rfl, rfl⟩

/-- A decoded read completes with a value, that of a TIMER running without time included. -/
theorem read_completes {off : Offset} {i : Instr} (s : State) (h : decodeReadAt off = .ok i) :
    ∃ t v, exec i s = .next t ∧ t.env.resp = .done (some v) := by
  by_cases hi : i = .rdTimer → s.blk.tickEn = false ∨ s.env.timed = true
  · obtain ⟨v, -, he⟩ := read_answersRegister s h hi
    exact ⟨_, v, he, rfl⟩
  · simp only [Classical.not_imp, not_or, Bool.not_eq_false, Bool.not_eq_true] at hi
    obtain ⟨rfl, hrun, hfree⟩ := hi
    exact ⟨_, _, if_pos (by simp [hrun, hfree]), rfl⟩

/-! ## Writes -/

/-- A full-strobe write of CMD completes without the error response, whatever the word (R600, R608). -/
theorem execCmd_completes (c : Word) (s : State) : ∃ b, execCmd c s = .next (s.answered b (.done none)) := by
  rw [execCmd_eq]
  cases hd : decodeCmd c with
  | ok i =>
    obtain ⟨b, he, -⟩ := command_effect c i s hd
    exact ⟨b, he⟩
  | error e => exact ⟨_, rfl⟩

/-- A decoded write is a bus error where the register is read-only; elsewhere it completes with full strobes and is a bus
error with any other mask (R202, R205). -/
theorem write_cases {off : Offset} {strb : Strobe} {wdata : Word} {i : Instr} (s : State)
    (h : decodeWriteAt off strb wdata = .ok i) :
    (readOnlyOffset off ∧ exec i s = busError (.write off strb wdata) s) ∨
    (¬ readOnlyOffset off ∧ ∃ b, exec i s =
      if strb = fullStrobe then .next (s.answered b (.done none)) else busError (.write off strb wdata) s) := by
  unfold decodeWriteAt at h
  split at h
  case h_14 =>
    cases h
    obtain ⟨b, hb⟩ := execCmd_completes wdata s
    refine .inr ⟨by simp [readOnlyOffset], b, ?_⟩
    rw [← hb]; rfl
  case h_2 | h_3 | h_4 | h_6 | h_7 | h_8 | h_11 | h_12 | h_13 =>
    cases h; exact .inr ⟨by simp [readOnlyOffset], _, rfl⟩
  case h_33 => cases h
  all_goals cases h; exact .inl ⟨by simp [readOnlyOffset], rfl⟩

/-- A decoded write without all four strobes is a bus error, whatever the register (R202, R205). -/
theorem partialWrite_eq_busError {off : Offset} {strb : Strobe} {wdata : Word} {i : Instr} (s : State)
    (h : decodeWriteAt off strb wdata = .ok i) (hs : strb ≠ 0xF#4) : exec i s = busError (.write off strb wdata) s := by
  rcases write_cases s h with ⟨-, he⟩ | ⟨-, b, he⟩
  · exact he
  · rw [he, if_neg hs]

/-- Settles O16: the write column of R302's map names each register's offset. -/
theorem partialStrobeWritesAreBusErrors : Obligations.PartialStrobeWritesAreBusErrors := fun s _ _ h =>
  ⟨partialWrite_eq_busError (off := 0x004#12) s rfl h, partialWrite_eq_busError (off := 0x008#12) s rfl h,
    partialWrite_eq_busError (off := 0x00C#12) s rfl h, partialWrite_eq_busError (off := 0x014#12) s rfl h,
    partialWrite_eq_busError (off := 0x018#12) s rfl h, partialWrite_eq_busError (off := 0x01C#12) s rfl h,
    partialWrite_eq_busError (off := 0x028#12) s rfl h, partialWrite_eq_busError (off := 0x02C#12) s rfl h,
    partialWrite_eq_busError (off := 0x030#12) s rfl h, partialWrite_eq_busError (off := 0x034#12) s rfl h⟩

/-! ## Decoding an access -/

/-- An aligned offset decodes by R302's read column, any other not at all (R203). -/
theorem decodeAccess_read (off : Offset) :
    decodeAccess (.read off) = if off.extractLsb' 0 2 = 0#2 then decodeReadAt off else .error .misaligned := rfl

/-- An aligned offset decodes by R302's write column, any other not at all (R203). -/
theorem decodeAccess_write (off : Offset) (strb : Strobe) (wdata : Word) :
    decodeAccess (.write off strb wdata) =
      if off.extractLsb' 0 2 = 0#2 then decodeWriteAt off strb wdata else .error .misaligned := rfl

theorem decodeAccess_read_ok {off : Offset} {i : Instr} :
    decodeAccess (.read off) = .ok i ↔ off.toNat % 4 = 0 ∧ decodeReadAt off = .ok i := by
  rw [decodeAccess_read, ← aligned_iff]
  split <;> simp [*]

theorem decodeAccess_write_ok {off : Offset} {strb : Strobe} {wdata : Word} {i : Instr} :
    decodeAccess (.write off strb wdata) = .ok i ↔ off.toNat % 4 = 0 ∧ decodeWriteAt off strb wdata = .ok i := by
  rw [decodeAccess_write, ← aligned_iff]
  split <;> simp [*]

/-- Settles O6: the read column of R302's map, beside the registers of 10_state section 1. -/
theorem mappedReadsReturnTheRegister : Obligations.MappedReadsReturnTheRegister :=
  fun _ _ s h hi => read_answersRegister s (decodeAccess_read_ok.mp h).2 hi

/-- An aligned offset of a register is all a read needs to decode (R203, R204). -/
theorem read_decodes_iff (off : Offset) : (∃ i, decodeAccess (.read off) = .ok i) ↔ mappedOffset off := by
  simp only [decodeAccess_read_ok, exists_and_left]
  by_cases ha : off.toNat % 4 = 0
  · rw [decodeReadAt_iff off ha]; simp [ha]
  · simp [ha, mappedOffset]

/-- An aligned offset of a register is all a write needs to decode (R203, R204). -/
theorem write_decodes_iff (off : Offset) (strb : Strobe) (wdata : Word) :
    (∃ i, decodeAccess (.write off strb wdata) = .ok i) ↔ mappedOffset off := by
  rw [← read_decodes_iff]
  simp only [decodeAccess_read_ok, decodeAccess_write_ok, exists_and_left, decodeWriteAt_iff]

/-! ## HOST's step -/

/-- HOST's step runs what R302 decodes, the command word that a write of CMD delivers included (R600). -/
theorem hostAction_decoded {a : Access} {i : Instr} (s : State) (h : decodeAccess a = .ok i) :
    (hostAction a s).outcome = exec i s := by
  unfold hostAction decodeHost
  cases a with
  | read off => simp only [h, Action.outcome]
  | write off strb wdata =>
    by_cases hc : off = 0x034#12 ∧ strb = fullStrobe
    · obtain ⟨rfl, rfl⟩ := hc
      cases h
      cases hd : decodeCmd wdata with
      | ok i => simpa [Action.outcome, exec, execWrCmd, hd] using (execCmd_eq wdata s).symm
      | error e => simp [Action.outcome, hd]
    · simp only [if_neg hc, h, Action.outcome]

/-- HOST's step is the bus error where the access does not decode (R205). -/
theorem hostAction_undecoded {a : Access} (s : State) (h : ¬ ∃ i, decodeAccess a = .ok i) :
    (hostAction a s).outcome = busError a s := by
  obtain ⟨e, he⟩ : ∃ e, decodeAccess a = .error e := by
    cases hd : decodeAccess a with
    | ok i => exact absurd ⟨i, hd⟩ h
    | error e => exact ⟨e, rfl⟩
  unfold hostAction decodeHost
  cases a with
  | read off => simp only [he, Action.outcome]
  | write off strb wdata =>
    have hcmd : off ≠ 0x034#12 := by rintro rfl; exact h ⟨_, rfl⟩
    simp only [hcmd, false_and, if_false, he, Action.outcome]

/-! ## The bus error -/

/-- A read's bus error, with its information word by fields (R205, R801). -/
theorem busError_read (off : Offset) (s : State) :
    busError (.read off) s = .next (s.answered (s.blk.raise .busError (0#20 ++ off)) (.error (some 0#32))) := by
  rw [← accessInfo_read]; rfl

/-- A write's bus error, with its information word by fields (R205, R801). -/
theorem busError_write (off : Offset) (strb : Strobe) (wdata : Word) (s : State) :
    busError (.write off strb wdata) s =
      .next (s.answered (s.blk.raise .busError (0#12 ++ strb ++ 0#3 ++ 1#1 ++ off)) (.error none)) := by
  rw [← accessInfo_write off strb wdata]; rfl

/-- For a read, R205's conditions come to an offset that is not mapped. -/
theorem isBusError_read_iff (off : Offset) : isBusError (.read off) ↔ ¬ mappedOffset off := by
  unfold isBusError mappedOffset; tauto

/-- For a write, R205's conditions come to an offset that is not mapped, a partial strobe or a read-only register. -/
theorem isBusError_write_iff (off : Offset) (strb : Strobe) (wdata : Word) :
    isBusError (.write off strb wdata) ↔ ¬ mappedOffset off ∨ strb ≠ 0xF#4 ∨ readOnlyOffset off := by
  unfold isBusError mappedOffset; tauto

/-- HOST's read is the bus error where one of R205's conditions holds, and completes with a value elsewhere. -/
theorem hostRead_cases (off : Offset) (s : State) :
    (isBusError (.read off) → (hostAction (.read off) s).outcome = busError (.read off) s) ∧
    (¬ isBusError (.read off) → ∃ t v, (hostAction (.read off) s).outcome = .next t ∧ t.env.resp = .done (some v)) := by
  rw [isBusError_read_iff, not_not, ← read_decodes_iff]
  refine ⟨hostAction_undecoded s, fun ⟨i, hi⟩ => ?_⟩
  rw [hostAction_decoded s hi]
  exact read_completes s (decodeAccess_read_ok.mp hi).2

/-- HOST's write is the bus error where one of R205's conditions holds, and completes elsewhere. -/
theorem hostWrite_cases (off : Offset) (strb : Strobe) (wdata : Word) (s : State) :
    (isBusError (.write off strb wdata) →
      (hostAction (.write off strb wdata) s).outcome = busError (.write off strb wdata) s) ∧
    (¬ isBusError (.write off strb wdata) →
      ∃ b, (hostAction (.write off strb wdata) s).outcome = .next (s.answered b (.done none))) := by
  rw [isBusError_write_iff, ← write_decodes_iff off strb wdata]
  by_cases hd : ∃ i, decodeAccess (.write off strb wdata) = .ok i
  · obtain ⟨i, hi⟩ := hd
    rw [hostAction_decoded s hi]
    rcases write_cases s (decodeAccess_write_ok.mp hi).2 with ⟨hro, he⟩ | ⟨hrw, b, he⟩
    · exact ⟨fun _ => he, fun h => absurd (.inr (.inr hro)) h⟩
    · refine ⟨fun h => ?_, fun h => ⟨b, ?_⟩⟩
      · have hs : strb ≠ 0xF#4 := (h.resolve_left (not_not.mpr ⟨i, hi⟩)).resolve_right hrw
        rw [he, if_neg hs]
      · have hs : strb = 0xF#4 := by_contra fun hs => h (.inr (.inl hs))
        rw [he, if_pos hs]
  · exact ⟨fun _ => hostAction_undecoded s hd, fun h => absurd (.inl hd) h⟩

/-- Settles O5: a bus error is an access that does not decode, or a write that its register does not take. -/
theorem busErrorsAreExactlyTheFourKinds : Obligations.BusErrorsAreExactlyTheFourKinds := by
  refine fun s rest => ⟨fun off ha => ?_, fun off strb wdata ha => ?_⟩ <;> rw [step_host ha]
  · rw [← popped_blk s rest, ← busError_read]
    exact hostRead_cases off _
  · rw [← popped_blk s rest, ← busError_write off strb wdata]
    obtain ⟨herr, hdone⟩ := hostWrite_cases off strb wdata (s.popped rest)
    refine ⟨herr, fun h => ?_⟩
    obtain ⟨b, hb⟩ := hdone h
    exact ⟨_, hb, rfl⟩

end Sys2Proof.Machine
end

section
/-! SUPPORT. The registers that each update of the block writes, and with them the frames of the register writes and of the
commands (R206, R209, R600). -/

namespace Sys2Proof.Machine

/-! ## From fields to bytes -/

/-- The fields behind every register but those named are the same in the two blocks (10_state section 1). -/
def Block.sameFieldsBut (b c : Block) (offs : List Offset) : Prop :=
  (0x004#12 ∉ offs → c.tickEn = b.tickEn) ∧
  (0x008#12 ∉ offs → c.phase = b.phase ∧ c.spPending = b.spPending ∧ c.sticky = b.sticky) ∧
  (0x00C#12 ∉ offs → c.errCause = b.errCause) ∧ (0x010#12 ∉ offs → c.errInfo = b.errInfo) ∧
  (0x014#12 ∉ offs → c.irqEn = b.irqEn) ∧ (0x018#12 ∉ offs → c.cfg = b.cfg) ∧
  (0x01C#12 ∉ offs → c.period = b.period) ∧ (0x020#12 ∉ offs → c.timer = b.timer) ∧
  (0x024#12 ∉ offs → c.tickCount = b.tickCount) ∧ (0x028#12 ∉ offs → c.missed = b.missed) ∧
  (0x02C#12 ∉ offs → c.setpoint = b.setpoint) ∧ (0x030#12 ∉ offs → c.data = b.data) ∧
  (0x038#12 ∉ offs → c.result = b.result) ∧ (0x03C#12 ∉ offs → c.lastOut = b.lastOut) ∧
  (0x040#12 ∉ offs → c.lastPwm = b.lastPwm) ∧ (0x044#12 ∉ offs → c.snapVmean = b.snapVmean) ∧
  (0x048#12 ∉ offs → c.snapVsd = b.snapVsd) ∧ (0x04C#12 ∉ offs → c.snapDmean = b.snapDmean) ∧
  (0x050#12 ∉ offs → c.snapDsd = b.snapDsd) ∧ (0x054#12 ∉ offs → c.snapTick = b.snapTick) ∧
  (0x060#12 ∉ offs → c.vw.s0 = b.vw.s0) ∧ (0x064#12 ∉ offs → c.vw.s1 = b.vw.s1) ∧
  (0x068#12 ∉ offs → c.vw.s2 = b.vw.s2) ∧ (0x06C#12 ∉ offs → c.vw.s3 = b.vw.s3) ∧
  (0x070#12 ∉ offs → c.vw.s4 = b.vw.s4) ∧
  (0x080#12 ∉ offs → c.dw.s0 = b.dw.s0) ∧ (0x084#12 ∉ offs → c.dw.s1 = b.dw.s1) ∧
  (0x088#12 ∉ offs → c.dw.s2 = b.dw.s2) ∧ (0x08C#12 ∉ offs → c.dw.s3 = b.dw.s3) ∧
  (0x090#12 ∉ offs → c.dw.s4 = b.dw.s4)

/-- The fields decide every byte of the register window (R206). -/
theorem sameBytesBut_of_fields {b c : Block} {offs : List Offset} (h : b.sameFieldsBut c offs) :
    b.sameBytesBut c offs := by
  refine sameBytesBut_of_regAt offs fun off hoff => ?_
  unfold Block.sameFieldsBut at h
  unfold Block.regAt
  split <;> simp [h, hoff, Block.ctrlWord, Block.statusWord, Block.busy, Block.errCauseWord]

/-- `c` is `b` but for the registers at `offs`: no other byte of the register window and no hidden state differs. -/
def Block.frameBut (b c : Block) (offs : List Offset) : Prop := b.sameBytesBut c offs ∧ b.sameHidden c

theorem frameBut_of_fields {b c : Block} {offs : List Offset} (h : b.sameFieldsBut c offs) (hh : b.sameHidden c) :
    b.frameBut c offs :=
  ⟨sameBytesBut_of_fields h, hh⟩

/-- A frame that names more registers says less. -/
theorem frameBut_mono {b c : Block} {offs offs' : List Offset} (h : b.frameBut c offs) (hsub : offs ⊆ offs') :
    b.frameBut c offs' :=
  ⟨fun addr ha => h.1 addr fun off ho => ha off (hsub ho), h.2⟩

/-- Hidden state is kept by an update of other fields. -/
theorem sameHidden_refl (b : Block) : b.sameHidden b := ⟨⟨rfl, rfl, rfl, rfl⟩, rfl⟩

/-! ## What the host writes -/

theorem same_frame (b : Block) : b.frameBut b [] := ⟨fun _ _ => rfl, sameHidden_refl b⟩

/-- STATUS, ERR_CAUSE and ERR_INFO, the registers an error is recorded in (R810). -/
def errorOffsets : List Offset := [0x008#12, 0x00C#12, 0x010#12]

theorem raise_frame (b : Block) (e : Cause) (info : Word) : b.frameBut (b.raise e info) errorOffsets :=
  frameBut_of_fields (by simp [Block.sameFieldsBut, errorOffsets]) (by simp [Block.sameHidden, Block.sameLatches])

theorem ctrl_frame (b : Block) (en : Bool) (t : Word) :
    b.frameBut { b with tickEn := en, timer := t } [0x004#12, 0x020#12] :=
  frameBut_of_fields (by simp [Block.sameFieldsBut]) (sameHidden_refl b)

theorem sticky_frame (b : Block) (e : EventBits) : b.frameBut { b with sticky := e } [0x008#12] :=
  frameBut_of_fields (by simp [Block.sameFieldsBut]) (sameHidden_refl b)

theorem clearError_frame (b : Block) : b.frameBut b.clearError [0x00C#12, 0x010#12] :=
  frameBut_of_fields (by simp [Block.sameFieldsBut]) (sameHidden_refl b)

theorem irqEn_frame (b : Block) (e : EventBits) : b.frameBut { b with irqEn := e } [0x014#12] :=
  frameBut_of_fields (by simp [Block.sameFieldsBut]) (sameHidden_refl b)

theorem cfg_frame (b : Block) (x : Cfg) : b.frameBut { b with cfg := x } [0x018#12] :=
  frameBut_of_fields (by simp [Block.sameFieldsBut]) (sameHidden_refl b)

theorem period_frame (b : Block) (w : Word) : b.frameBut { b with period := w } [0x01C#12] :=
  frameBut_of_fields (by simp [Block.sameFieldsBut]) (sameHidden_refl b)

theorem missed_frame (b : Block) (w : Word) : b.frameBut { b with missed := w } [0x028#12] :=
  frameBut_of_fields (by simp [Block.sameFieldsBut]) (sameHidden_refl b)

theorem data_frame (b : Block) (w : Word) : b.frameBut { b with data := w } [0x030#12] :=
  frameBut_of_fields (by simp [Block.sameFieldsBut]) (sameHidden_refl b)

theorem result_frame (b : Block) (w : Word) : b.frameBut { b with result := w } [0x038#12] :=
  frameBut_of_fields (by simp [Block.sameFieldsBut]) (sameHidden_refl b)

theorem snap_frame (b : Block) (vmean vsd dmean dsd tick : Word) :
    b.frameBut
      { b with snapVmean := vmean, snapVsd := vsd, snapDmean := dmean, snapDsd := dsd, snapTick := tick }
      [0x044#12, 0x048#12, 0x04C#12, 0x050#12, 0x054#12] :=
  frameBut_of_fields (by simp [Block.sameFieldsBut]) (sameHidden_refl b)

theorem startTick_frame (b : Block) : b.frameBut b.startTick [0x008#12] :=
  frameBut_of_fields (by simp [Block.sameFieldsBut]) (sameHidden_refl b)

/-- The five slots of a window (10_state section 1). -/
def slotOffsets : Win → List Offset
  | .vw => [0x060#12, 0x064#12, 0x068#12, 0x06C#12, 0x070#12]
  | .dw => [0x080#12, 0x084#12, 0x088#12, 0x08C#12, 0x090#12]

theorem setWindow_frame (b : Block) (w : Win) (x : Window) : b.frameBut (b.setWindow w x) (slotOffsets w) := by
  cases w
  case vw => exact frameBut_of_fields (by simp [Block.sameFieldsBut, slotOffsets, Block.setWindow]) (sameHidden_refl b)
  case dw => exact frameBut_of_fields (by simp [Block.sameFieldsBut, slotOffsets, Block.setWindow]) (sameHidden_refl b)

/-- In SETTGT the write of SETPOINT also holds the request word, so only the latches are kept in every phase (R331). -/
theorem setpointWritten_frame (b : Block) (w : Word) :
    b.sameBytesBut (b.setpointWritten w) [0x02C#12, 0x008#12] ∧ b.sameLatches (b.setpointWritten w) ∧
      (b.phase ≠ .settgt → (b.setpointWritten w).heldTarget = b.heldTarget) :=
  ⟨sameBytesBut_of_fields (by simp [Block.sameFieldsBut]), ⟨rfl, rfl, rfl, rfl⟩, fun hp => by simp [hp]⟩

/-! ## Writes and commands that can be turned away -/

/-- A write of a locked register writes it, or records the error (R712). -/
theorem writeLocked_frame {b : Block} {off : Offset} {f : Block → Block} (hf : b.frameBut (f b) [off]) :
    b.frameBut (b.writeLocked off f) (off :: errorOffsets) := by
  rcases writeLocked_cases b off f with ⟨-, he⟩ | he <;> rw [he]
  · exact frameBut_mono hf (by simp)
  · exact frameBut_mono (raise_frame b _ _) (by simp)

/-- A command that needs a stopped block has its effect, or records the error (R600). -/
theorem ifStopped_frame {b : Block} {f : Block → Block} {offs : List Offset} (c : Word) (hf : b.frameBut (f b) offs) :
    b.frameBut (b.ifStopped c f) (errorOffsets ++ offs) := by
  rcases ifStopped_cases b c f with ⟨-, he⟩ | ⟨e, -, he⟩ <;> rw [he]
  · exact frameBut_mono hf (by simp)
  · exact frameBut_mono (raise_frame b _ _) (by simp)

/-- PUSH and CLEAR: what the selected window becomes does not matter (R601, R606). -/
theorem windowCommand_frame (b : Block) (c : Word) (w : Win) (g : Block → Window) :
    b.frameBut (b.ifStopped c fun b => b.setWindow w (g b)) (errorOffsets ++ slotOffsets w) :=
  ifStopped_frame c (setWindow_frame b w (g b))

/-- FORCE_TICK: STATUS is also among the registers of a recorded error (R607). -/
theorem forceTick_frame (b : Block) (c : Word) : b.frameBut (b.ifStopped c Block.startTick) errorOffsets :=
  frameBut_mono (ifStopped_frame c (startTick_frame b)) (by simp [errorOffsets])

/-! ## The obligations -/

/-- The frame of an access is the frame of the block it leaves. -/
theorem exec_frame {i : Instr} {s t : State} {c : Block} {r : BusResp} {offs : List Offset}
    (hf : s.blk.frameBut c offs) (he : exec i s = .next (s.answered c r)) (h : exec i s = .next t) :
    s.blk.frameBut t.blk offs := by
  cases he.symm.trans h
  exact hf

/-- Settles O18: the frame of each register's update, and of its rejection where the register can be locked. -/
theorem registerWriteFrames : Obligations.RegisterWriteFrames := fun s _ w =>
  ⟨exec_frame (ctrl_frame s.blk _ _) rfl, exec_frame (sticky_frame s.blk _) rfl, exec_frame (clearError_frame s.blk) rfl,
    exec_frame (irqEn_frame s.blk _) rfl, exec_frame (missed_frame s.blk _) rfl,
    fun h => by cases h; exact setpointWritten_frame s.blk w,
    exec_frame (data_frame s.blk _) rfl,
    exec_frame (writeLocked_frame (f := fun b => { b with cfg := Cfg.ofWord w }) (cfg_frame s.blk _)) rfl,
    exec_frame (writeLocked_frame (f := fun b => { b with period := w }) (period_frame s.blk _)) rfl⟩

/-- Settles O25: the frame of each command's effect, and of its rejection where it needs a stopped block. -/
theorem commandFrames : Obligations.CommandFrames := fun s _ =>
  ⟨exec_frame (same_frame s.blk) rfl,
    exec_frame (windowCommand_frame s.blk _ .vw _) rfl, exec_frame (windowCommand_frame s.blk _ .dw _) rfl,
    exec_frame (windowCommand_frame s.blk _ .vw _) rfl, exec_frame (windowCommand_frame s.blk _ .dw _) rfl,
    exec_frame (result_frame s.blk _) rfl, exec_frame (result_frame s.blk _) rfl,
    exec_frame (result_frame s.blk _) rfl, exec_frame (result_frame s.blk _) rfl,
    exec_frame (snap_frame s.blk _ _ _ _ _) rfl, exec_frame (forceTick_frame s.blk _) rfl⟩

end Sys2Proof.Machine
end

section
/-! SUPPORT. Encoding and decoding: the words of the four ports read back, the illegal command words, and the request words
that stand on the ports (R302, R321, R322, R330, R331, R340). -/

namespace Sys2Proof.Machine

/-! ## The words the encoder builds -/

/-- The decoder reads the two fields of a command word (R320). -/
theorem decodeCmd_cmdWord (w : BitVec 1) (op : BitVec 4) : decodeCmd (cmdWord w op) = decodeCmdOp op w := by
  simp [decodeCmd]

/-- The decoder reads the two fields of a PWM word (R340). -/
theorem decodePwm_pwmWord (ch : BitVec 8) (v : BitVec 16) : decodePwm (pwmWord ch v) = .ok (.pwmWrite ch v) := by
  simp [decodePwm]

/-- Settles O1: by the instruction. A word with operands is read back field by field; an engine word without data and a
host access at a fixed offset are looked up in their tables. -/
theorem decodeOfEncodeGivesInstruction : Obligations.DecodeOfEncodeGivesInstruction := by
  intro i hwf
  cases i with
  | push w | mean w | stddev w | clear w =>
    refine (decodeCmd_cmdWord _ _).trans ?_
    simp only [decodeCmdOp, win_ofBit_bit]
  | eSetTarget d => exact decodeEng_setTarget d
  | eRefresh d | eCompute d | eGetVel d | eGetOut d | eGetRaw d =>
    obtain rfl : d = 0#32 := eq_of_beq hwf
    rfl
  | pwmWrite ch v => exact decodePwm_pwmWord ch v
  | _ => rfl

/-- Settles O3: each word is a literal, decoded by computation. -/
theorem wordsWrittenOutDecode : Obligations.WordsWrittenOutDecode := by
  unfold Obligations.WordsWrittenOutDecode
  decide

/-! ## Illegal command words -/

/-- With Z = 0 the decoder turns away exactly the OP and W fields of R322 (b) and (c). -/
theorem decodeCmdOp_rejects_iff : ∀ (op : BitVec 4) (w : BitVec 1),
    (7 ≤ op.toNat ∨ ((op = 0x0#4 ∨ op = 0x4#4 ∨ op = 0x6#4) ∧ w = 1#1)) ↔ (decodeCmdOp op w).isOk = false := by
  decide

/-- Bit 4 of a command word is its W field (R320). -/
theorem cmdWord_getLsbD_four (w : BitVec 1) (op : BitVec 4) : (cmdWord w op).getLsbD 4 = true ↔ w = 1#1 := by
  revert w op; decide

/-- The words R322 lists are those the decoder refuses. -/
theorem illegalCommandWord_iff (c : Word) : illegalCommandWord c ↔ (decodeCmd c).isOk = false := by
  by_cases hz : c.extractLsb' 5 27 = 0#27
  · rw [← cmdWord_of_fields c hz, decodeCmd_cmdWord, ← decodeCmdOp_rejects_iff]
    simp only [illegalCommandWord, cmdWord_z, cmdWord_op, cmdWord_getLsbD_four, ne_eq, not_true, false_or]
  · have hrefused : decodeCmd c = .error .cmdZ := if_neg hz
    exact iff_of_true (.inl hz) (by rw [hrefused]; rfl)

/-- A full-strobe write of CMD with a word the decoder refuses runs the illegal command (R600, R608). -/
theorem exec_wrCmd_refused {c : Word} (s : State) (h : (decodeCmd c).isOk = false) :
    exec (.wrCmd fullStrobe c) s = illegalCommand c s := by
  refine (execCmd_eq c s).trans ?_
  cases hd : decodeCmd c with
  | ok i => rw [hd] at h; cases h
  | error e => rfl

/-- Settles O4: the decoder refuses exactly the listed words, and `execCmd` turns away the words the decoder refuses. -/
theorem illegalCommandWordsRaise : Obligations.IllegalCommandWordsRaise := by
  refine ⟨fun c => ?_, fun c s hc => exec_wrCmd_refused s ((illegalCommandWord_iff c).mp hc)⟩
  rw [illegalCommandWord_iff, decode]
  cases decodeCmd c with
  | ok i => exact iff_of_false nofun fun h => h i rfl
  | error e => exact iff_of_true rfl nofun

/-! ## Requests not asserted -/

/-- An engine request other than the one its phase gives does nothing (R330, R507). -/
theorem engineCall_unissued {s : State} {op : BitVec 3} {d : Word} (f : Block → Word → Block)
    (h : (s.blk.phase, op, d) ∉ [(.settgt, 2#3, s.blk.target), (.refresh, 0#3, 0#32), (.compute, 1#3, 0#32),
      (.getout, 4#3, 0#32), (.getvel, 3#3, 0#32), (.getraw, 5#3, 0#32)]) :
    engineCall (engWord op d) f s = .next s :=
  if_neg fun hreq => h (by simpa using engineRequest_phase hreq)

/-- A PWM request other than PWMWR's own does nothing (R508, R515). -/
theorem pwmCall_unissued {s : State} {ch : BitVec 8} {v : BitVec 16} (f : Block → Block)
    (h : s.blk.phase ≠ .pwmwr ∨ ch ≠ s.blk.cfg.pwmCh ∨ v ≠ saturate s.blk.lOut s.blk.cfg.pwmMax) :
    pwmCall (pwmWord ch v) f s = .next s := by
  refine if_neg fun hreq => ?_
  rcases pwmRequest_cases s.blk with hnone | ⟨hp, hsome⟩
  · simp [hnone] at hreq
  · obtain ⟨hch, hv⟩ := pwmWord_inj (Option.some.inj (hsome.symm.trans hreq))
    rcases h with h | h | h
    · exact h hp
    · exact h hch.symm
    · exact h hv.symm

/-- Settles O30: each request by its operation, which fixes the one phase and the one argument it is asserted with. -/
theorem unissuedRequestsDoNothing : Obligations.UnissuedRequestsDoNothing := fun s =>
  ⟨fun _ h => engineCall_unissued (fun b _ => b.targetSet) (by simpa [Block.target, imp_iff_not_or] using h),
    fun _ h => engineCall_unissued (fun b _ => b.refreshed) (by simpa [imp_iff_not_or] using h),
    fun _ h => engineCall_unissued (fun b _ => b.computed) (by simpa [imp_iff_not_or] using h),
    fun _ h => engineCall_unissued Block.gotOut (by simpa [imp_iff_not_or] using h),
    fun _ h => engineCall_unissued Block.gotVel (by simpa [imp_iff_not_or] using h),
    fun _ h => engineCall_unissued Block.gotRaw (by simpa [imp_iff_not_or] using h),
    fun _ _ h => pwmCall_unissued _ h⟩

/-! ## Requests asserted -/

/-- IDLE asserts no request (R507, R508). -/
theorem phase_ne_idle_of_portRequest {b : Block} {w : PortWord} (h : b.portRequest = some w) : b.phase ≠ .idle := by
  intro hp
  simp [Block.portRequest, Block.engineRequest, Block.pwmRequest, hp] at h

/-- Recording an error leaves the request lines (R810). -/
@[simp] theorem raise_portRequest (b : Block) (e : Cause) (info : Word) :
    (b.raise e info).portRequest = b.portRequest := by
  unfold Block.raise; split <;> rfl

/-- A write of SETPOINT leaves the request lines, in SETTGT too (R331; assumption 19). -/
@[simp] theorem setpointWritten_portRequest (b : Block) (w : Word) :
    (b.setpointWritten w).portRequest = b.portRequest := by
  unfold Block.portRequest
  rw [setpointWritten_engineRequest]
  rfl

/-- During a tick no host access moves the request lines: what could, a write of CFG and FORCE_TICK, is locked out
(R331, R600, R712). -/
theorem hostEffect_portRequest {a : Access} {b c : Block} (he : HostEffect a b c) (hp : b.phase ≠ .idle) :
    c.portRequest = b.portRequest := by
  cases he with
  | raised => exact raise_portRequest _ _ _
  | setpoint => exact setpointWritten_portRequest _ _
  | cfg _ _ hl | period _ _ hl | window _ _ _ _ _ hl | start _ hl => exact absurd (locked_eq_false.mp hl).2 hp
  | same | ctrl | status | errCause | irqEn | missed | data | result | snap => rfl

/-- During a tick TIMER's step leaves the request lines: its event is dropped (R331, R503). -/
theorem timerEffect_portRequest {timed : Bool} {b c : Block} (he : TimerEffect timed b c) (hp : b.phase ≠ .idle) :
    c.portRequest = b.portRequest := by
  cases he with
  | stopped | counted => rfl
  | started _ _ hidle => exact absurd hidle hp
  | dropped => exact raise_portRequest _ _ _

/-- During a tick only SEQ's step and reset move the request lines. -/
theorem blockEffect_portRequest {timed : Bool} {ev : Event} {rest : List Event} {b c : Block}
    (he : BlockEffect timed (ev :: rest) b c) (hp : b.phase ≠ .idle) (hseq : ev.isSeq = false)
    (hreset : ev.isReset = false) : c.portRequest = b.portRequest := by
  cases he with
  | host he => exact hostEffect_portRequest he hp
  | timer he => exact timerEffect_portRequest he hp
  | seq => cases hseq
  | reset => cases hreset

/-- Settles O59: a request is asserted only during a tick, when neither HOST nor TIMER moves the request lines. -/
theorem requestWordsAreHeldUntilAcknowledged : Obligations.RequestWordsAreHeldUntilAcknowledged := by
  intro s t ev rest w ha hseq hreset hreq hstep
  have he := step_blockEffect hstep
  rw [ha] at he
  exact (blockEffect_portRequest he (phase_ne_idle_of_portRequest hreq) hseq hreset).trans hreq

end Sys2Proof.Machine
end

section
/-! SUPPORT. The commands on a window: what PUSH and CLEAR answer by R600's checks, the statistics written out slot by slot,
and the host's PUSHes through DATA and CMD (R402, R403, R410, R420, R600 to R606). -/

namespace Sys2Proof.Machine

/-! ## Commands that need a stopped block -/

/-- What a command that needs a stopped block answers, by R600's checks in their order. -/
theorem exec_ifStopped_cases {i : Instr} {s : State} {c : Word} {f : Block → Block}
    (h : exec i s = runCommand (fun b => b.ifStopped c f) s) :
    (s.blk.tickEn = false ∧ s.blk.phase = .idle → exec i s = .next (s.answered (f s.blk) (.done none))) ∧
    (s.blk.tickEn = true → exec i s = .next (s.answered (s.blk.raise .cmdOwnership c) (.done none))) ∧
    (s.blk.tickEn = false ∧ s.blk.phase ≠ .idle →
      exec i s = .next (s.answered (s.blk.raise .cmdBusy c) (.done none))) := by
  have hrun : exec i s = .next (s.answered (s.blk.ifStopped c f) (.done none)) := h
  refine ⟨fun hs => ?_, fun hs => ?_, fun hs => ?_⟩ <;> rw [hrun]
  · rw [ifStopped_stopped hs]
  · rw [ifStopped_enabled hs]
  · rw [ifStopped_busy hs]

/-- Settles O20: PUSH on each window, by R600's checks. -/
theorem pushShiftsTheSelectedWindow : Obligations.PushShiftsTheSelectedWindow := by
  have hvw (s : State) := exec_ifStopped_cases (i := .push .vw) (s := s) rfl
  have hdw (s : State) := exec_ifStopped_cases (i := .push .dw) (s := s) rfl
  exact ⟨fun s h => ⟨(hvw s).1 h, (hdw s).1 h⟩, fun s => (hvw s).2, fun s => (hdw s).2⟩

/-- Five slots of +0.0 have the statistics +0.0 (R411 (a), R422 (f)). -/
theorem zeroWindow_statistics : Window.zero.mean = 0#32 ∧ Window.zero.stddev = 0#32 := by decide

/-- Settles O21: CLEAR on each window, by R600's checks. -/
theorem clearZeroesTheSelectedWindow : Obligations.ClearZeroesTheSelectedWindow := by
  have hvw (s : State) := exec_ifStopped_cases (i := .clear .vw) (s := s) rfl
  have hdw (s : State) := exec_ifStopped_cases (i := .clear .dw) (s := s) rfl
  exact ⟨fun s h => ⟨(hvw s).1 h, (hdw s).1 h, rfl, zeroWindow_statistics⟩, fun s => (hvw s).2, fun s => (hdw s).2⟩

/-- Settles O22: the folds of the model over the five slots are the spec's formulas written out. -/
theorem meanAndStddevFillResult : Obligations.MeanAndStddevFillResult := fun _ => ⟨rfl, rfl, rfl, rfl⟩

/-! ## PUSH by the host -/

/-- The host's two writes that push `v` into a window: DATA, then CMD = PUSH (R402). -/
def pushEvents (w : Win) (v : Word) : List Event :=
  [.host (.write 0x030#12 fullStrobe v), .host (.write 0x034#12 fullStrobe (cmdWord w.bit 0x1#4))]

/-- The block with the window written and `v` in DATA. -/
def Block.withWindowAndData (b : Block) (w : Win) (x : Window) (v : Word) : Block := { b.setWindow w x with data := v }

/-- The window selected is the one written (R15). -/
theorem withWindowAndData_window (b : Block) (w : Win) (x : Window) (v : Word) :
    (b.withWindowAndData w x v).window w = x := by cases w <;> rfl

/-- A later write of the window and DATA takes the place of an earlier one. -/
theorem withWindowAndData_twice (b : Block) (w : Win) (x y : Window) (u v : Word) :
    (b.withWindowAndData w x u).withWindowAndData w y v = b.withWindowAndData w y v := by cases w <;> rfl

/-- HOST's write of DATA (R730). -/
theorem step_host_data {s : State} {v : Word} {rest : List Event}
    (ha : s.env.agenda = .host (.write 0x030#12 fullStrobe v) :: rest) :
    step s = .next ((s.popped rest).answered { s.blk with data := v } (.done none)) :=
  step_host_decoded ha rfl

/-- A full-strobe write of CMD with the word of a PUSH is fetched as that PUSH (R321, R600). -/
theorem decodeHost_pushWord (w : Win) :
    decodeHost (.write 0x034#12 fullStrobe (cmdWord w.bit 0x1#4)) = .ok (.push w) := by
  cases w <;> rfl

/-- HOST's PUSH on a stopped block (R601, R733). -/
theorem step_host_push {s : State} {w : Win} {rest : List Event} (h : s.blk.tickEn = false ∧ s.blk.phase = .idle)
    (ha : s.env.agenda = .host (.write 0x034#12 fullStrobe (cmdWord w.bit 0x1#4)) :: rest) :
    step s = .next ((s.popped rest).answered (s.blk.setWindow w ((s.blk.window w).push s.blk.data)) (.done none)) :=
  (step_host_decoded ha (decodeHost_pushWord w)).trans ((exec_ifStopped_cases (i := .push w) rfl).1 h)

/-- The host's two writes are two steps that push the value and leave it in DATA. -/
theorem core_run_pushEvents {s : State} {w : Win} {v : Word} {rest : List Event} (k : Nat)
    (h : s.blk.tickEn = false ∧ s.blk.phase = .idle) (ha : s.env.agenda = pushEvents w v ++ rest) :
    Sys2Proof.core.run (k + 2) s = Sys2Proof.core.run k
      ((s.popped rest).answered (s.blk.withWindowAndData w ((s.blk.window w).push v) v) (.done none)) := by
  refine (core_run_succ (step_host_data ha)).trans (core_run_succ ((step_host_push ?_ rfl).trans ?_))
  · exact h
  · cases w <;> rfl

/-- Any number of pushes by the host, one after the other. -/
theorem core_run_pushes (w : Win) (rest : List Event) (vs : List Word) {s : State}
    (h : s.blk.tickEn = false ∧ s.blk.phase = .idle) (ha : s.env.agenda = vs.flatMap (pushEvents w) ++ rest) :
    ∃ t, Sys2Proof.core.run (2 * vs.length) s = .next t ∧ t.env.agenda = rest ∧
      t.blk = s.blk.withWindowAndData w (vs.foldl Window.push (s.blk.window w)) (vs.getLastD s.blk.data) := by
  induction vs generalizing s with
  | nil => exact ⟨s, rfl, ha, by cases w <;> rfl⟩
  | cons v vs ih =>
    rw [List.flatMap_cons, List.append_assoc] at ha
    have hrun := core_run_pushEvents (2 * vs.length) h ha
    obtain ⟨t, ht, hrest, hblk⟩ := ih (s := (s.popped (vs.flatMap (pushEvents w) ++ rest)).answered
      (s.blk.withWindowAndData w ((s.blk.window w).push v) v) (.done none))
      (by simpa [Block.withWindowAndData] using h) rfl
    refine ⟨t, hrun.trans ht, hrest, ?_⟩
    rw [hblk, answered_blk, withWindowAndData_window, withWindowAndData_twice, List.getLastD_cons]
    rfl

/-- Settles O58: five pushes by the host leave none of the old slots. -/
theorem pushesReachTheWindowThroughCmd : Obligations.PushesReachTheWindowThroughCmd := by
  intro s w v1 v2 v3 v4 v5 rest put htick hphase ha
  have hput (v : Word) (tail : List Event) : put v tail = pushEvents w v ++ tail := by cases w <;> rfl
  simp only [hput] at ha
  obtain ⟨t, hrun, hrest, hblk⟩ := core_run_pushes w rest [v1, v2, v3, v4, v5] ⟨htick, hphase⟩ ha
  have hwin : t.blk.window w = { s0 := v1, s1 := v2, s2 := v3, s3 := v4, s4 := v5 } := by
    rw [hblk, withWindowAndData_window]; rfl
  refine ⟨t, hrun, hrest, by rw [hwin]; rfl, ?_⟩
  rw [hwin]
  exact hblk

end Sys2Proof.Machine
end

section
/-! SUPPORT. Finite statistics: a finite result stays within every representable bound of its exact value, so the variance of
a bounded window is finite (R8, R420, R422). -/

namespace Sys2Proof.Machine

/-! ## Representable bounds -/

/-- A count of units that some finite magnitude stands for. -/
def F32.representable (u : Nat) : Prop := ∃ m < 0x7F800000, magUnits m = u

/-- A finite number of at most `u` units. -/
def F32.within (u : Nat) (a : Word) : Prop := F32.isFinite a = true ∧ F32.units a ≤ u

/-- A significand of 24 bits, shifted, is representable while it lies below 2^277 units. -/
theorem representable_mul_two_pow {q k : Nat} (hq : q < 2 ^ 24) (h : q * 2 ^ k < 2 ^ 277) :
    F32.representable (q * 2 ^ k) := by
  induction k generalizing q with
  | zero => exact ⟨2 ^ 23 * 0 + q, by omega, magUnits_scaled 0 q (by omega) (.inl rfl) (by omega)⟩
  | succ k ih =>
    rcases Nat.lt_or_ge q (2 ^ 23) with hlt | hge
    · have hshift : 2 * q * 2 ^ k = q * 2 ^ (k + 1) := by ring
      exact hshift ▸ ih (by omega) (hshift ▸ h)
    · have hpow : 2 ^ (23 + (k + 1)) < 2 ^ 277 := by
        rw [Nat.pow_add]; exact Nat.lt_of_le_of_lt (Nat.mul_le_mul_right _ hge) h
      have hk := (Nat.pow_lt_pow_iff_right (by decide)).mp hpow
      exact ⟨2 ^ 23 * (k + 1) + q, by omega, magUnits_scaled (k + 1) q (by omega) (.inr hge) (by omega)⟩

/-- Up to five times a power of two up to 2^274 units, 2^125, is representable. -/
theorem representable_mul_le_five {k : Nat} (hk : k ≤ 274) : ∀ i ≤ 5, F32.representable (i * 2 ^ k) := fun i hi =>
  representable_mul_two_pow (by omega) <|
    calc i * 2 ^ k ≤ 5 * 2 ^ 274 := Nat.mul_le_mul hi (Nat.pow_le_pow_right (by decide) hk)
      _ < 2 ^ 277 := by omega

/-- Rounding does not go beyond a finite magnitude that the exact result does not go beyond. -/
theorem roundMag_le_of_le {n d m : Nat} (hd : 0 < d) (hm : m < 0x7F800000) (h : n ≤ magUnits m * d) :
    F32.roundMag n d ≤ m := by
  have hn : n < F32.overflowUnits * d := by
    have hmax := magUnits_mul_le d (show m ≤ 0x7F7FFFFF by omega) (by omega)
    have htop := magUnits_mul_lt hd (show 0x7F7FFFFF < 0x7F800000 by omega) (by omega)
    have hmid := overflowUnits_midpoint d
    omega
  by_contra hlt
  have hle := roundMag_le n d
  have hmid := ((roundMag_midpoint hd hn hm).1 (by omega)).1
  have hgt := magUnits_mul_lt hd (Nat.lt_of_not_le hlt) (by omega)
  omega

/-- A rounded result is within every representable bound of the exact one. -/
theorem within_round (neg : Bool) {n d u : Nat} (hd : 0 < d) (hu : F32.representable u) (h : n ≤ u * d) :
    F32.within u (F32.round neg n d) := by
  obtain ⟨m, hm, rfl⟩ := hu
  have hle := roundMag_le_of_le hd hm h
  refine ⟨(f32_isFinite_round neg n d).mpr (by omega), ?_⟩
  rw [f32_units_round]
  simpa using magUnits_mul_le 1 hle (by omega)

/-- The units of a number are its value without the sign. -/
theorem natAbs_value (a : Word) : (F32.value a).natAbs = F32.units a := by
  unfold F32.value F32.signed; split <;> simp

/-- A sum is within the sum of the bounds. -/
theorem within_add {a b : Word} {u v : Nat} (ha : F32.within u a) (hb : F32.within v b)
    (huv : F32.representable (u + v)) : F32.within (u + v) (F32.add a b) := by
  obtain ⟨hafin, hau⟩ := ha
  obtain ⟨hbfin, hbv⟩ := hb
  rw [f32_add_finite hafin hbfin]
  split
  · have := within_round (F32.signBit a && F32.signBit b) Nat.one_pos huv (Nat.zero_le _)
    rwa [F32.round, roundMag_zero] at this
  · refine within_round _ Nat.one_pos huv ?_
    have := Int.natAbs_add_le (F32.value a) (F32.value b)
    rw [natAbs_value, natAbs_value] at this
    omega

/-- A product is within a bound of the product of the bounds. -/
theorem within_mul {a b : Word} {u v w : Nat} (ha : F32.within u a) (hb : F32.within v b) (hw : F32.representable w)
    (h : u * v ≤ w * 2 ^ 149) : F32.within w (F32.mul a b) := by
  obtain ⟨hafin, hau⟩ := ha
  obtain ⟨hbfin, hbv⟩ := hb
  rw [f32_mul_finite hafin hbfin]
  exact within_round _ (by positivity) hw (Nat.le_trans (Nat.mul_le_mul hau hbv) h)

/-- A fifth of a number is within a fifth of its bound. -/
theorem within_div_five {a : Word} {u : Nat} (ha : F32.within (5 * u) a) (hu : F32.representable u) :
    F32.within u (F32.div a F32.five) := by
  obtain ⟨hafin, hau⟩ := ha
  have h5 : F32.units F32.five = 5 * 2 ^ 149 := by decide
  rw [f32_div_finite hafin (by decide) (by rw [h5]; decide), h5]
  exact within_round _ (by decide) hu (by omega)

/-- Negation keeps the bound. -/
theorem within_neg {a : Word} {u : Nat} (ha : F32.within u a) : F32.within u (F32.neg a) := by
  obtain ⟨hafin, hau⟩ := ha
  refine ⟨f32_isFinite_neg hafin, ?_⟩
  rwa [f32_units_eq, f32_neg_magnitude, ← f32_units_eq]

/-! ## Sums of slots -/

/-- A running sum of numbers within `u`, each partial bound representable, is within their number times `u`. -/
theorem within_foldl_add {u : Nat} {xs : List Word} {j : Nat} {acc : Word} (hacc : F32.within (j * u) acc)
    (hxs : ∀ x ∈ xs, F32.within u x) (hu : ∀ i ≤ j + xs.length, F32.representable (i * u)) :
    F32.within ((j + xs.length) * u) (xs.foldl F32.add acc) := by
  induction xs generalizing j acc with
  | nil => exact hacc
  | cons x xs ih =>
    rw [List.length_cons, ← Nat.add_assoc, Nat.add_right_comm] at hu ⊢
    refine ih ?_ (fun y hy => hxs y (.tail _ hy)) hu
    rw [Nat.succ_mul]
    exact within_add hacc (hxs x (.head _)) (Nat.succ_mul j u ▸ hu (j + 1) (by omega))

/-- +0.0 is within every bound. -/
theorem within_zero (u : Nat) : F32.within u F32.zero := by
  have h0 : F32.units F32.zero = 0 := by decide
  exact ⟨by decide, h0 ▸ Nat.zero_le u⟩

/-- The fifth of a sum of five numbers is within their common bound (R410). -/
theorem within_fifth_of_sum {u : Nat} {xs : List Word} (hlen : xs.length = 5) (hxs : ∀ x ∈ xs, F32.within u x)
    (hu : ∀ i ≤ 5, F32.representable (i * u)) : F32.within u (F32.div (xs.foldl F32.add F32.zero) F32.five) := by
  have hsum := within_foldl_add (j := 0) (within_zero _) hxs (by simpa [hlen] using hu)
  rw [hlen, Nat.zero_add] at hsum
  exact within_div_five hsum (by simpa using hu 1 (by omega))

/-- The sum of squares is the sum of the squares' list (R420). -/
theorem sumSquares_eq (S : Window) : S.sumSquares = (S.slots.map fun x => F32.mul x x).foldl F32.add F32.zero := rfl

/-- The variance of five slots within `u` is within twice a bound `w` of their squares (R422 (c)). -/
theorem within_variance {S : Window} {u w : Nat} (hS : ∀ x ∈ S.slots, F32.within u x)
    (hu : ∀ i ≤ 5, F32.representable (i * u)) (hw : ∀ i ≤ 5, F32.representable (i * w)) (huw : u * u ≤ w * 2 ^ 149) :
    F32.within (w + w) S.variance := by
  have hw1 : F32.representable w := by simpa using hw 1 (by omega)
  have hmean : F32.within u S.mean := within_fifth_of_sum rfl hS hu
  have hsquares : F32.within w (F32.div S.sumSquares F32.five) := by
    rw [sumSquares_eq]
    refine within_fifth_of_sum rfl ?_ hw
    simp only [List.mem_map]
    rintro _ ⟨x, hx, rfl⟩
    exact within_mul (hS x hx) (hS x hx) hw1 huw
  exact within_add hsquares (within_neg (within_mul hmean hmean hw1 huw)) (Nat.two_mul w ▸ hw 2 (by omega))

end Sys2Proof.Machine
end

section
/-! SUPPORT. Infinities and NaNs in the operations and in the statistics (R411, R422, R424; assumptions 17 and 20). -/

namespace Sys2Proof.Machine

/-! ## Kinds of patterns -/

/-- An infinity is one. -/
theorem f32_isInf_inf (n : Bool) : F32.isInf (F32.inf n) = true := by cases n <;> decide

/-- A pattern is a NaN, an infinity or a finite number (R207). -/
theorem f32_cases (a : Word) : F32.isNaN a = true ∨ (∃ n, a = F32.inf n) ∨ F32.isFinite a = true := by
  have ha := a.isLt
  rcases Nat.lt_trichotomy (a.toNat % 2 ^ 31) 0x7F800000 with hlt | heq | hgt
  · exact .inr (.inr ((f32_finite_iff a).mpr hlt))
  · refine .inr (.inl ⟨decide (2 ^ 31 ≤ a.toNat), BitVec.eq_of_toNat_eq ?_⟩)
    rw [F32.inf, F32.infMag, withSign_toNat _ _ (by decide)]
    simp only [decide_eq_true_eq]
    split <;> omega
  · refine .inl ?_
    rw [F32.isNaN, f32_exp_eq, f32_frac_eq, Bool.and_eq_true, beq_iff_eq, bne_iff_ne]
    omega

/-! ## Infinite operands -/

/-- An infinity plus a finite number (R18; assumption 17). -/
theorem f32_add_inf_finite (n : Bool) {x : Word} (hx : F32.isFinite x = true) : F32.add (F32.inf n) x = F32.inf n := by
  simp [F32.add, f32_nan_inf, f32_isInf_inf, f32_sign_inf, f32_fin_no hx]

/-- A finite number plus an infinity. -/
theorem f32_add_finite_inf (n : Bool) {x : Word} (hx : F32.isFinite x = true) : F32.add x (F32.inf n) = F32.inf n := by
  simp [F32.add, f32_nan_inf, f32_isInf_inf, f32_sign_inf, f32_fin_no hx]

/-- Two infinities: their own sum where the signs agree, invalid where they do not. -/
theorem f32_add_inf_inf (m n : Bool) : F32.add (F32.inf m) (F32.inf n) = if m = n then F32.inf m else F32.nan := by
  cases m <;> cases n <;> decide

/-- An infinity times a finite number: invalid for zero. -/
theorem f32_mul_inf_finite (n : Bool) {x : Word} (hx : F32.isFinite x = true) :
    F32.mul (F32.inf n) x = if F32.units x = 0 then F32.nan else F32.inf (n ^^ F32.signBit x) := by
  simp [F32.mul, f32_nan_inf, f32_isInf_inf, f32_sign_inf, f32_fin_no hx, hx]

/-- A finite number times an infinity. -/
theorem f32_mul_finite_inf (n : Bool) {x : Word} (hx : F32.isFinite x = true) :
    F32.mul x (F32.inf n) = if F32.units x = 0 then F32.nan else F32.inf (n ^^ F32.signBit x) := by
  simp [F32.mul, f32_nan_inf, f32_isInf_inf, f32_sign_inf, f32_fin_no hx, Bool.xor_comm]

/-- The product of two infinities. -/
theorem f32_mul_inf_inf (m n : Bool) : F32.mul (F32.inf m) (F32.inf n) = F32.inf (m ^^ n) := by
  cases m <;> cases n <;> decide

/-- An infinity over a finite number, zero included. -/
theorem f32_div_inf_finite (n : Bool) {x : Word} (hx : F32.isFinite x = true) :
    F32.div (F32.inf n) x = F32.inf (n ^^ F32.signBit x) := by
  simp [F32.div, f32_nan_inf, f32_isInf_inf, f32_sign_inf, f32_fin_no hx]

/-- A finite number over an infinity is a zero. -/
theorem f32_div_finite_inf (n : Bool) {x : Word} (hx : F32.isFinite x = true) :
    F32.div x (F32.inf n) = F32.withSign (n ^^ F32.signBit x) 0 := by
  simp [F32.div, f32_nan_inf, f32_isInf_inf, f32_sign_inf, f32_fin_no hx, Bool.xor_comm]

/-- Two infinities have no quotient. -/
theorem f32_div_inf_inf (m n : Bool) : F32.div (F32.inf m) (F32.inf n) = F32.nan := by
  cases m <;> cases n <;> decide

/-! ## Sums with an infinity -/

/-- The infinity of sign `n`, or the canonical NaN: what an infinite slot leaves of a statistic. -/
def F32.infOrNaN (n : Bool) (a : Word) : Prop := a = F32.inf n ∨ a = F32.nan

/-- An infinity absorbs in a sum. -/
theorem infOrNaN_add {n : Bool} {a b : Word} (h : F32.infOrNaN n a ∨ F32.infOrNaN n b) :
    F32.infOrNaN n (F32.add a b) := by
  rcases h with (rfl | rfl) | (rfl | rfl)
  · rcases f32_cases b with hb | ⟨m, rfl⟩ | hb
    · exact .inr (f32_add_nan (.inr hb))
    · rw [f32_add_inf_inf]; split
      exacts [.inl rfl, .inr rfl]
    · exact .inl (f32_add_inf_finite n hb)
  · exact .inr (f32_add_nan (.inl f32_nan_nan))
  · rcases f32_cases a with ha | ⟨m, rfl⟩ | ha
    · exact .inr (f32_add_nan (.inl ha))
    · rw [f32_add_inf_inf]; split
      next hm => exact .inl (hm ▸ rfl)
      next => exact .inr rfl
    · exact .inl (f32_add_finite_inf n ha)
  · exact .inr (f32_add_nan (.inr f32_nan_nan))

/-- A fifth of it is of the same kind. -/
theorem infOrNaN_div_five {n : Bool} {a : Word} (h : F32.infOrNaN n a) : F32.infOrNaN n (F32.div a F32.five) := by
  rcases h with rfl | rfl
  · rw [f32_div_inf_finite n (by decide), show F32.signBit F32.five = false by decide, Bool.xor_false]; exact .inl rfl
  · exact .inr (by decide)

/-- Its square is +∞ or the canonical NaN. -/
theorem infOrNaN_square {n : Bool} {a : Word} (h : F32.infOrNaN n a) : F32.infOrNaN false (F32.mul a a) := by
  rcases h with rfl | rfl
  · rw [f32_mul_inf_inf, Bool.xor_self]; exact .inl rfl
  · exact .inr (by decide)

/-- Two of one kind have no difference. -/
theorem f32_sub_infOrNaN {n : Bool} {a b : Word} (ha : F32.infOrNaN n a) (hb : F32.infOrNaN n b) :
    F32.sub a b = F32.nan := by
  rcases ha with rfl | rfl <;> rcases hb with rfl | rfl <;> cases n <;> decide

/-- A property that one summand hands to the sum passes from one number of a list to the running sum. -/
theorem foldl_add_absorbs {P : Word → Prop} (hP : ∀ a b, P a ∨ P b → P (F32.add a b)) {xs : List Word} {acc : Word}
    (h : P acc ∨ ∃ x ∈ xs, P x) : P (xs.foldl F32.add acc) := by
  induction xs generalizing acc with
  | nil => simpa using h
  | cons x xs ih =>
    simp only [List.mem_cons, exists_eq_or_imp, ← or_assoc] at h
    exact ih (h.imp_left (hP acc x))

/-- A running sum that meets one infinity, and beside it only finite numbers whose partial sums do not overflow, is that
infinity (R411 (e); assumption 20). -/
theorem foldl_add_eq_inf {n : Bool} {u : Nat} {xs : List Word} {j : Nat} {acc : Word}
    (hacc : acc = F32.inf n ∨ (F32.within (j * u) acc ∧ F32.inf n ∈ xs))
    (hxs : ∀ x ∈ xs, x = F32.inf n ∨ F32.within u x) (hu : ∀ i ≤ j + xs.length, F32.representable (i * u)) :
    xs.foldl F32.add acc = F32.inf n := by
  induction xs generalizing j acc with
  | nil => simpa using hacc
  | cons x xs ih =>
    rw [List.length_cons, Nat.add_comm xs.length, ← Nat.add_assoc] at hu
    refine ih (j := j + 1) ?_ (fun y hy => hxs y (.tail _ hy)) hu
    rcases hacc with rfl | ⟨hacc, hmem⟩ <;> rcases hxs x (.head _) with rfl | hx
    · exact .inl (by simp [f32_add_inf_inf])
    · exact .inl (f32_add_inf_finite n hx.1)
    · exact .inl (f32_add_finite_inf n hacc.1)
    · refine .inr ⟨?_, ?_⟩
      · rw [Nat.succ_mul]
        exact within_add hacc hx (Nat.succ_mul j u ▸ hu (j + 1) (by omega))
      · refine (List.mem_cons.mp hmem).resolve_left ?_
        rintro rfl
        exact absurd hx.1 (by cases n <;> decide)

/-! ## NaN in the order and the root -/

/-- f32_lt is false where an operand is a NaN (R18). -/
theorem f32_lt_nan {a b : Word} (h : F32.isNaN a = true ∨ F32.isNaN b = true) : F32.lt a b = false := by
  rw [F32.lt, if_pos (by simpa using h)]

/-- A NaN has the canonical NaN as its root (R424). -/
theorem f32_sqrt_nan {a : Word} (h : F32.isNaN a = true) : F32.sqrt a = F32.nan := by rw [F32.sqrt, if_pos h]

/-! ## The clamp (R421) -/

/-- Where the variance lies below +0.0 the standard deviation is +0.0 (R421). -/
theorem stddev_of_variance_lt {S : Window} (h : F32.lt S.variance F32.zero = true) : S.stddev = 0x00000000#32 := by
  rw [Window.stddev, clampRadicand, if_pos h]; decide

/-- Elsewhere it is the root of the variance (R421). -/
theorem stddev_of_variance_not_lt {S : Window} (h : F32.lt S.variance F32.zero = false) :
    S.stddev = F32.sqrt S.variance := by
  rw [Window.stddev, clampRadicand, h, if_neg Bool.false_ne_true]

/-! ## The statistics -/

/-- A mean with a NaN slot is the canonical NaN (R411 (c)). -/
theorem mean_of_nan {S : Window} (h : ∃ x ∈ S.slots, F32.isNaN x = true) : S.mean = F32.nan := by
  have hsum : F32.isNaN S.sum = true :=
    foldl_add_absorbs (P := fun a => F32.isNaN a = true) (fun a b hab => by rw [f32_add_nan hab]; decide) (.inr h)
  exact f32_div_nan (.inl hsum)

/-- A mean with an infinite slot is that infinity or the canonical NaN. -/
theorem mean_of_inf {S : Window} {n : Bool} (h : F32.inf n ∈ S.slots) : F32.infOrNaN n S.mean :=
  infOrNaN_div_five (foldl_add_absorbs (fun _ _ => infOrNaN_add) (.inr ⟨_, h, .inl rfl⟩))

/-- A mean with both infinities among the slots is the canonical NaN (R411 (d)). -/
theorem mean_of_both_infs {S : Window} (hp : F32.inf false ∈ S.slots) (hn : F32.inf true ∈ S.slots) :
    S.mean = F32.nan := by
  rcases mean_of_inf hp with h | h
  · exact (mean_of_inf hn).resolve_left (by rw [h]; decide)
  · exact h

/-- A mean with one infinity among bounded slots is that infinity (R411 (e); assumption 20). -/
theorem mean_of_one_inf {S : Window} {n : Bool} {u : Nat} (h : F32.inf n ∈ S.slots)
    (hS : ∀ x ∈ S.slots, x = F32.inf n ∨ F32.within u x) (hu : ∀ i ≤ 5, F32.representable (i * u)) :
    S.mean = F32.inf n := by
  have hsum : S.sum = F32.inf n :=
    foldl_add_eq_inf (j := 0) (.inr ⟨within_zero _, h⟩) hS (by simpa [Window.slots] using hu)
  rw [Window.mean, hsum, f32_div_inf_finite n (by decide), show F32.signBit F32.five = false by decide, Bool.xor_false]

/-- A NaN variance is not clamped, and its root is the canonical NaN (R421). -/
theorem stddev_of_variance_nan {S : Window} (h : F32.isNaN S.variance = true) :
    F32.lt S.variance F32.zero = false ∧ S.stddev = F32.nan := by
  have hlt : F32.lt S.variance F32.zero = false := f32_lt_nan (.inl h)
  exact ⟨hlt, (stddev_of_variance_not_lt hlt).trans (f32_sqrt_nan h)⟩

/-- A NaN mean makes the standard deviation NaN. -/
theorem stddev_of_mean_nan {S : Window} (h : S.mean = F32.nan) : S.stddev = F32.nan := by
  have hvar : S.variance = F32.nan := by
    rw [Window.variance, h, F32.sub]
    exact f32_add_nan (.inr (by decide))
  exact (stddev_of_variance_nan (by rw [hvar]; decide)).2

/-- An infinite slot makes the standard deviation NaN: the mean of squares and the square of the mean are both +∞, or one
is NaN (R422 (e)). -/
theorem stddev_of_inf {S : Window} {n : Bool} (h : F32.inf n ∈ S.slots) : S.stddev = F32.nan := by
  have hsquares : F32.infOrNaN false S.sumSquares := by
    rw [sumSquares_eq]
    exact foldl_add_absorbs (fun _ _ => infOrNaN_add)
      (.inr ⟨_, List.mem_map_of_mem h, infOrNaN_square (.inl rfl)⟩)
  have hvar : S.variance = F32.nan :=
    f32_sub_infOrNaN (infOrNaN_div_five hsquares) (infOrNaN_square (mean_of_inf h))
  exact (stddev_of_variance_nan (by rw [hvar]; decide)).2

/-- Settles O56: the slots that are not finite absorb the running sums, and each operation by the kinds of its operands. -/
theorem nonFiniteSlotsDecideTheStatistics : Obligations.NonFiniteSlotsDecideTheStatistics := by
  refine ⟨fun S => ⟨fun h => ?_, fun h => ?_, fun h => ?_, mean_of_both_infs, ?_, ?_⟩, fun n x hx => ?_, by decide,
    by decide⟩
  · have hmean : S.mean = F32.nan := mean_of_nan (by simpa [Window.slots] using h)
    exact ⟨hmean, stddev_of_mean_nan hmean⟩
  · exact (f32_canon_div _ _).resolve_right fun hf => Bool.false_ne_true (hf.symm.trans h)
  · exact (f32_canon_sqrt _).resolve_right fun hf => Bool.false_ne_true (hf.symm.trans h)
  · intro inf hinf hmem hS
    have hcase : ∃ n, inf = F32.inf n := by
      rcases List.mem_pair.mp hinf with rfl | rfl
      exacts [⟨false, by decide⟩, ⟨true, by decide⟩]
    obtain ⟨n, rfl⟩ := hcase
    refine mean_of_one_inf hmem hS ?_
    rw [← pow_add]
    exact representable_mul_le_five (by omega)
  · rintro (h | h)
    exacts [stddev_of_inf (n := false) h, stddev_of_inf (n := true) h]
  · intro inf
    rw [show inf = F32.inf from funext fun m => (f32_inf_eq m).symm]
    refine ⟨f32_add_inf_finite n hx, f32_add_finite_inf n hx, ?_, ?_, fun h0 => ⟨?_, ?_⟩, fun h0 => ⟨?_, ?_⟩, ?_, ?_,
      f32_div_inf_finite n hx, ?_, f32_div_inf_inf n n, f32_div_inf_inf n (!n)⟩
    · rw [f32_add_inf_inf, if_pos rfl]
    · rw [f32_add_inf_inf, if_neg (by simp)]; rfl
    · rw [f32_mul_inf_finite n hx, if_neg h0]
    · rw [f32_mul_finite_inf n hx, if_neg h0]
    · rw [f32_mul_inf_finite n hx, if_pos h0]; rfl
    · rw [f32_mul_finite_inf n hx, if_pos h0]; rfl
    · rw [f32_mul_inf_inf, Bool.xor_self]; rfl
    · rw [f32_mul_inf_inf, Bool.xor_not_self]; rfl
    · rw [f32_div_finite_inf n hx, withSign_zero_eq]

end Sys2Proof.Machine
end

section
/-! SUPPORT. The clamp of the radicand and the sign and finiteness of the standard deviation (R420 to R422). -/

namespace Sys2Proof.Machine

/-! ## The ordered less-than -/

/-- f32_lt on finite numbers is the order of their values (R18). -/
theorem f32_lt_finite {a b : Word} (ha : F32.isFinite a = true) (hb : F32.isFinite b = true) :
    F32.lt a b = decide (F32.value a < F32.value b) := by
  simp [F32.lt, f32_fin_no ha, f32_fin_no hb]

/-- An infinity lies below a finite number by its sign (assumption 17). -/
theorem f32_lt_inf_finite (n : Bool) {a : Word} (ha : F32.isFinite a = true) : F32.lt (F32.inf n) a = n := by
  simp [F32.lt, f32_nan_inf, f32_isInf_inf, f32_sign_inf, f32_fin_no ha]

/-- A finite number lies below an infinity by its sign (assumption 17). -/
theorem f32_lt_finite_inf (n : Bool) {a : Word} (ha : F32.isFinite a = true) : F32.lt a (F32.inf n) = !n := by
  simp [F32.lt, f32_nan_inf, f32_isInf_inf, f32_sign_inf, f32_fin_no ha]

/-! ## The sign of the variance -/

/-- A pattern of sign 0 is not −0.0. -/
theorem ne_negZero_of_signBit {a : Word} (h : F32.signBit a = false) : a ≠ 0x80000000#32 := by
  rintro rfl; exact absurd h (by decide)

/-- A sum of patterns of sign 0 has sign 0. -/
theorem f32_sign_foldl_add {xs : List Word} {acc : Word} (hacc : F32.signBit acc = false)
    (hxs : ∀ x ∈ xs, F32.signBit x = false) : F32.signBit (xs.foldl F32.add acc) = false := by
  induction xs generalizing acc with
  | nil => exact hacc
  | cons x xs ih => exact ih (f32_sign_add hacc (hxs x (.head _))) fun y hy => hxs y (.tail _ hy)

/-- The mean of squares has sign 0. -/
theorem f32_sign_meanSquares (S : Window) : F32.signBit (F32.div S.sumSquares F32.five) = false := by
  refine f32_sign_div ?_ (by decide)
  rw [sumSquares_eq]
  refine f32_sign_foldl_add (by decide) ?_
  simp only [List.mem_map]
  rintro _ ⟨x, -, rfl⟩
  exact f32_sign_mul rfl

/-- Only zero rounds to zero, in whole units. -/
theorem roundMag_ne_zero {n : Nat} (h : n ≠ 0) : F32.roundMag n 1 ≠ 0 := by
  intro h0
  have hn := (roundMag_finite_iff (n := n) Nat.one_pos).mp (by omega)
  have hmid := ((roundMag_midpoint (m := 1) Nat.one_pos hn (by decide)).2 (by omega)).1
  rw [h0, show magUnits 0 = 0 by decide, show magUnits 1 = 1 by decide] at hmid
  omega

/-- A number of units that is not zero does not round to −0.0. -/
theorem f32_round_ne_negZero (neg : Bool) {n : Nat} (h : n ≠ 0) : F32.round neg n 1 ≠ 0x80000000#32 := by
  intro he
  have hmag := f32_mag_with neg (F32.roundMag n 1) (by have := roundMag_le n 1; omega)
  rw [← F32.round, he] at hmag
  exact roundMag_ne_zero h hmag.symm

/-- A finite number of sign 0 and another one do not sum to −0.0 (R421). -/
theorem f32_add_ne_negZero {a b : Word} (ha : F32.isFinite a = true) (hb : F32.isFinite b = true)
    (hs : F32.signBit a = false) : F32.add a b ≠ 0x80000000#32 := by
  rw [f32_add_finite ha hb]
  split
  next => rw [hs, Bool.false_and]; decide
  next h0 => exact f32_round_ne_negZero _ (Int.natAbs_ne_zero.mpr h0)

/-- No subtraction from a pattern of sign 0 gives −0.0 (R421). -/
theorem f32_sub_ne_negZero {a b : Word} (ha : F32.signBit a = false) : F32.sub a b ≠ 0x80000000#32 := by
  rw [F32.sub]
  generalize F32.neg b = c
  rcases f32_cases a with hn | ⟨n, rfl⟩ | hfin
  · rw [f32_add_nan (.inl hn)]; decide
  · rcases infOrNaN_add (n := n) (b := c) (.inl (.inl rfl)) with h | h <;> rw [h]
    · cases n <;> decide
    · decide
  · rcases f32_cases c with hn | ⟨n, rfl⟩ | hcfin
    · rw [f32_add_nan (.inr hn)]; decide
    · rw [f32_add_finite_inf n hfin]; cases n <;> decide
    · exact f32_add_ne_negZero hfin hcfin ha

/-- The variance is not −0.0 (R421). -/
theorem variance_ne_negZero (S : Window) : S.variance ≠ 0x80000000#32 :=
  f32_sub_ne_negZero (f32_sign_meanSquares S)

/-! ## The sign of the root -/

/-- A zero is its own root (R18). -/
theorem f32_sqrt_zero {a : Word} (ha : F32.isFinite a = true) (h0 : F32.units a = 0) : F32.sqrt a = a := by
  simp [F32.sqrt, f32_fin_no ha, ha, h0]

/-- A negative number has no root (R18). -/
theorem f32_sqrt_negative {a : Word} (ha : F32.isFinite a = true) (hs : F32.signBit a = true) (h0 : F32.units a ≠ 0) :
    F32.sqrt a = F32.nan := by
  simp [F32.sqrt, f32_fin_no ha, hs, h0]

/-- A zero of sign 1 is −0.0. -/
theorem eq_negZero {a : Word} (hs : F32.signBit a = true) (h0 : F32.units a = 0) : a = 0x80000000#32 := by
  have hmag : a.toNat % 2 ^ 31 = 0 := by
    by_contra hne
    have hlt := magUnits_lt (Nat.pos_of_ne_zero hne) (Nat.mod_lt _ (by decide))
    rw [← f32_units_eq, h0] at hlt
    omega
  rw [f32_signBit_eq, decide_eq_true_iff] at hs
  have ha := a.isLt
  exact BitVec.eq_of_toNat_eq (show a.toNat = 2 ^ 31 by omega)

/-- The root of anything but −0.0 has sign 0. -/
theorem f32_sign_sqrt_of_ne_negZero {a : Word} (h : a ≠ 0x80000000#32) : F32.signBit (F32.sqrt a) = false := by
  cases hs : F32.signBit a
  · exact f32_sign_sqrt hs
  · rcases f32_cases a with hn | ⟨n, rfl⟩ | hfin
    · rw [f32_sqrt_nan hn]; decide
    · cases n <;> decide
    · rw [f32_sqrt_negative hfin hs fun h0 => h (eq_negZero hs h0)]; decide

/-- The standard deviation has sign 0 (R422). -/
theorem f32_sign_stddev (S : Window) : F32.signBit S.stddev = false := by
  cases h : F32.lt S.variance F32.zero
  · rw [stddev_of_variance_not_lt h]; exact f32_sign_sqrt_of_ne_negZero (variance_ne_negZero S)
  · rw [stddev_of_variance_lt h]; decide

/-- Settles O57: the clamp by `F32.lt`, and the order by the kinds of its operands. -/
theorem clampTakesNegativeRadicandsOnly : Obligations.ClampTakesNegativeRadicandsOnly := by
  refine ⟨fun S => ⟨stddev_of_variance_lt, stddev_of_variance_not_lt, stddev_of_variance_nan,
    ne_negZero_of_signBit (f32_sign_meanSquares S), ne_negZero_of_signBit (f32_sign_mul rfl), variance_ne_negZero S,
    f32_sign_stddev S⟩, fun a b => ⟨f32_lt_nan, fun ha hb => ?_, fun ha => ?_⟩, by decide, by decide, by decide, by decide⟩
  · rw [f32_lt_finite ha hb, decide_eq_true_iff]
  · exact ⟨f32_lt_inf_finite true ha, f32_lt_finite_inf true ha, f32_lt_finite_inf false ha, f32_lt_inf_finite false ha⟩

/-! ## Finite standard deviations -/

/-- The root of a finite number that is zero or positive is finite. -/
theorem f32_isFinite_sqrt {a : Word} (ha : F32.isFinite a = true) (h : 0 ≤ F32.value a) :
    F32.isFinite (F32.sqrt a) = true := by
  by_cases h0 : F32.units a = 0
  · rwa [f32_sqrt_zero ha h0]
  · have hs : F32.signBit a = false := by
      by_contra hs
      rw [F32.value, Bool.eq_true_of_not_eq_false hs, F32.signed, if_pos rfl] at h
      omega
    exact (squareRootIsNearest a ha hs h0).1

/-- A finite variance has a finite standard deviation: what is not clamped is not negative. -/
theorem f32_isFinite_stddev {S : Window} (h : F32.isFinite S.variance = true) : F32.isFinite S.stddev = true := by
  cases hlt : F32.lt S.variance F32.zero
  · rw [stddev_of_variance_not_lt hlt]
    refine f32_isFinite_sqrt h ?_
    rw [f32_lt_finite h (by decide), decide_eq_false_iff_not, not_lt] at hlt
    exact hlt
  · rw [stddev_of_variance_lt hlt]; decide

/-- Settles O55: the squares of numbers within 2^62 stay within 2^124, so nothing overflows before the root. -/
theorem stddevOfBoundedWindowsIsFinite : Obligations.StddevOfBoundedWindowsIsFinite := by
  intro S h0 h1 h2 h3 h4
  have hS : ∀ x ∈ S.slots, F32.within (2 ^ 211) x := by
    simp only [Window.slots, List.forall_mem_cons]
    exact ⟨h0, h1, h2, h3, h4, by simp⟩
  have hvar : F32.within (2 ^ 273 + 2 ^ 273) S.variance :=
    within_variance hS (representable_mul_le_five (by omega)) (representable_mul_le_five (by omega)) (by omega)
  have hfin := f32_isFinite_stddev hvar.1
  exact ⟨hfin, f32_sign_stddev S, (f32_fin_no hfin).1⟩

end Sys2Proof.Machine
end

section
/-! SUPPORT. What an asserted port request answers, and SEQ's step phase by phase: the effects of R511 to R518, the order of
R519, and the errors of R521. -/

namespace Sys2Proof.Machine

/-! ## Requests asserted by the block -/

/-- An engine request the block asserts is sent once, and the reply standing on ERDATA is taken (R331, R507). -/
theorem engineCall_issued {s : State} {w : BitVec 35} (f : Block → Word → Block)
    (h : s.blk.engineRequest = some w) :
    engineCall w f s = .next (s.engineAnswered (f s.blk s.env.erdata) w) := by
  rw [engineCall, if_pos h, State.engineAnswered]

/-- A PWM request the block asserts is sent once (R508). -/
theorem pwmCall_issued {s : State} {w : BitVec 24} (f : Block → Block) (h : s.blk.pwmRequest = some w) :
    pwmCall w f s = .next (s.pwmAnswered (f s.blk) w) := by
  rw [pwmCall, if_pos h, State.pwmAnswered]

/-- The engine request that each phase asserts, SETTGT with its target (R507, R511). -/
def Phase.engineRequest (target : Word) : Phase → Option (BitVec 35)
  | .settgt => some (engWord 2#3 target)
  | .refresh => some (engWord 0#3 0#32)
  | .compute => some (engWord 1#3 0#32)
  | .getout => some (engWord 4#3 0#32)
  | .getvel => some (engWord 3#3 0#32)
  | .getraw => some (engWord 5#3 0#32)
  | .idle | .pwmwr | .commit => none

/-- The block's engine request is its phase's (R507). -/
theorem engineRequest_of_phase {b : Block} {p : Phase} (h : b.phase = p) :
    b.engineRequest = p.engineRequest b.target := by
  unfold Block.engineRequest
  subst h
  cases b.phase <;> rfl

/-- The PWM request of PWMWR (R508, R515). -/
theorem pwmRequest_of_pwmwr {b : Block} (h : b.phase = .pwmwr) :
    b.pwmRequest = some (pwmWord b.cfg.pwmCh (saturate b.lOut b.cfg.pwmMax)) := by
  unfold Block.pwmRequest; rw [h]

/-! ## The conversion of the value sent -/

/-- A representable number of units is rounded to itself. -/
theorem roundMag_exact {u : Nat} (h : F32.representable u) :
    F32.roundMag u 1 < 0x7F800000 ∧ magUnits (F32.roundMag u 1) = u := by
  obtain ⟨m, hm, hu⟩ := h
  have hle : F32.roundMag u 1 ≤ m := roundMag_le_of_le Nat.one_pos hm (by omega)
  have hfin : F32.roundMag u 1 < 0x7F800000 := by omega
  have hnear := (roundMag_nearest Nat.one_pos ((roundMag_finite_iff Nat.one_pos).mp hfin) hm).1
  rw [hu] at hnear
  refine ⟨hfin, ?_⟩
  simp only [Nat.cast_one, mul_one, sub_self, abs_zero, abs_nonpos_iff] at hnear
  omega

/-- A 16-bit value zero-extended is not negative. -/
theorem toInt_zeroExtend_16 (x : BitVec 16) : (x.zeroExtend 32).toInt = x.toNat := by
  rw [BitVec.toInt_eq_toNat_of_lt (by simp; omega)]; simp; omega

/-- The conversion of a 16-bit value to binary32 is exact: 16 bits fit the significand (R516, R18). -/
theorem f32_ofInt_zeroExtend (x : BitVec 16) :
    F32.isFinite (F32.ofInt (x.zeroExtend 32)) = true ∧
      F32.value (F32.ofInt (x.zeroExtend 32)) = (x.toNat : Int) * 2 ^ 149 := by
  have hx := x.isLt
  have hrep : F32.representable (x.toNat * 2 ^ 149) := representable_mul_two_pow (by omega) (by omega)
  obtain ⟨hfin, hval⟩ := roundMag_exact hrep
  have hneg : decide ((x.toNat : Int) < 0) = false := by simp
  rw [F32.ofInt, toInt_zeroExtend_16, hneg, Int.natAbs_natCast, f32_isFinite_round, f32_value_round, hval]
  exact ⟨hfin, by simp [F32.signed]⟩

/-! ## The transactions of a tick -/

/-- The engine transaction of a phase, by the request the phase asserts (R331, R507). -/
theorem engineTransaction {s : State} {w : BitVec 35} {p : Phase} (f : Block → Word → Block) (hp : s.blk.phase = p)
    (hw : p.engineRequest s.blk.target = some w) :
    engineCall w f s = .next (s.engineAnswered (f s.blk s.env.erdata) w) :=
  engineCall_issued f ((engineRequest_of_phase hp).trans hw)

/-- E_SET_TARGET in SETTGT, where a later SETPOINT is held back or not (R511, R524; assumption 19). -/
theorem setTarget_issued {s : State} {held : Option Word} (hp : s.blk.phase = .settgt) (hh : s.blk.heldTarget = held) :
    exec (.eSetTarget (held.getD s.blk.setpoint)) s =
      .next (s.engineAnswered { s.blk with spPending := held.isSome, heldTarget := none, phase := .refresh }
        (engWord 2#3 (held.getD s.blk.setpoint))) := by
  subst hh
  exact engineTransaction (fun b _ => b.targetSet) hp rfl

/-- Settles O28: each request is the one its phase asserts, so it is sent, and its effect is that of its rule; the
conversion of the value sent is exact. -/
theorem enginePhasesDoTheirTransactions : Obligations.EnginePhasesDoTheirTransactions := by
  refine ⟨fun s => ⟨fun hp hh => ?_, fun v hp hh => ?_, (engineTransaction (fun b _ => b.refreshed) · rfl),
    (engineTransaction (fun b _ => b.computed) · rfl), (engineTransaction Block.gotOut · rfl), fun hp hd => ?_,
    fun hp hd => ?_, (engineTransaction Block.gotRaw · rfl)⟩, f32_ofInt_zeroExtend⟩
  · refine (setTarget_issued hp hh).trans ?_
    simp [hh, engWord]
  · exact setTarget_issued hp hh
  · refine (engineTransaction Block.gotVel hp rfl).trans ?_
    rw [Block.gotVel, if_pos hd]; rfl
  · refine (engineTransaction Block.gotVel hp rfl).trans ?_
    rw [Block.gotVel, if_neg (by simp [hd])]; rfl

/-- Settles O29: the three ranges give the clamped value, and the clamp is recorded where the output lies outside. -/
theorem pwmWriteSendsTheClampedOutput : Obligations.PwmWriteSendsTheClampedOutput := by
  intro s val hp hneg hover hin
  have hval : saturate s.blk.lOut s.blk.cfg.pwmMax = val := saturate_unique _ _ _ hneg hover hin
  have hreq := pwmRequest_of_pwmwr hp
  rw [hval] at hreq
  refine (pwmCall_issued Block.pwmSent hreq).trans ?_
  simp only [Block.pwmSent, saturates, decide_eq_true_eq, hval, pwmWord]

/-! ## SEQ's step -/

/-- SEQ's turn: its step answers a state with the effect of the phase, the request logged (R13, R17). -/
theorem step_seq_effect {s : State} {reply : Word} {rest : List Event} (h : s.env.agenda = .seq reply :: rest) :
    ∃ t, step s = .next t ∧ SeqEffect reply s.blk t.blk ∧ (s.popped rest).env.seqLogs t.env s.blk := by
  rw [step_seq h]
  exact seq_step reply (s.popped rest)

/-- SEQ's turn in COMMIT (R518). -/
theorem step_seq_commit {s : State} {reply : Word} {rest : List Event} (h : s.env.agenda = .seq reply :: rest)
    (hp : s.blk.phase = .commit) : step s = .next { blk := s.blk.commit, env := { s.env with agenda := rest } } := by
  have hnone : s.blk.portRequest = none := by
    simp [Block.portRequest, Block.engineRequest, Block.pwmRequest, hp]
  rw [step_seq h, seqAction, popped_blk, hnone]
  simp only [hp]
  rfl

/-- Settles O31: COMMIT's one step, its windows written out slot by slot. -/
theorem commitShowsTheTickAtOnce : Obligations.CommitShowsTheTickAtOnce := by
  intro s reply rest ha hp
  rw [step_seq_commit ha hp, ← zeroExtend_16]
  rfl

/-- SEQ moves to the next phase of R519's order. -/
theorem seqEffect_phase {reply : Word} {b c : Block} (he : SeqEffect reply b c) :
    c.phase = b.phase.next b.cfg.dutySrc := by
  cases he with
  | idle h | settgt h | refresh h | compute h | getout h | pwmwr h | getvel h | getraw h | commit h =>
    simp [h, Phase.next]

/-- Each phase but IDLE, PWMWR and COMMIT makes one engine request (R507). -/
theorem engineRequest_length (b : Block) :
    b.engineRequest.toList.length = if b.phase = .idle ∨ b.phase = .pwmwr ∨ b.phase = .commit then 0 else 1 := by
  cases hp : b.phase <;> simp [engineRequest_of_phase hp, Phase.engineRequest]

/-- PWMWR alone makes a PWM request (R508). -/
theorem pwmRequest_length (b : Block) : b.pwmRequest.toList.length = if b.phase = .pwmwr then 1 else 0 := by
  unfold Block.pwmRequest
  cases b.phase <;> rfl

/-- Settles O34: by the effect of SEQ's step and the request its phase asserts. -/
theorem seqStepFollowsThePhaseOrder : Obligations.SeqStepFollowsThePhaseOrder := by
  intro s reply rest ha
  obtain ⟨t, ht, he, hagenda, -, -, -, heng, hpwm⟩ := step_seq_effect ha
  refine ⟨t, ht, hagenda, seqEffect_phase he, ?_, ?_⟩
  · rw [heng, List.length_append, engineRequest_length, Nat.add_comm, popped_engLog]
  · rw [hpwm, List.length_append, pwmRequest_length, Nat.add_comm, popped_pwmLog]

/-- Outside PWMWR, SEQ records no error, whatever the reply, and sets no event bit but COMMIT's TICK_DONE (R521, R825). -/
theorem seqEffect_errors {reply : Word} {b c : Block} (he : SeqEffect reply b c) (hp : b.phase ≠ .pwmwr) :
    c.errCause = b.errCause ∧ c.errInfo = b.errInfo ∧
      c.sticky = { b.sticky with tickDone := b.sticky.tickDone || decide (b.phase = .commit) } := by
  cases he with
  | pwmwr h => exact absurd h hp
  | idle h | settgt h | refresh h | compute h | getout h | getvel h | getraw h | commit h => simp [h]

/-- Settles O41: the step is SEQ's own, with the effect of its phase. -/
theorem engineDataRaisesNothing : Obligations.EngineDataRaisesNothing := by
  intro s t reply rest ha hp hstep
  obtain ⟨u, hu, he, -⟩ := step_seq_effect ha
  obtain rfl : u = t := by simpa [hu] using hstep
  exact seqEffect_errors he hp

end Sys2Proof.Machine
end

section
/-! SUPPORT. The tick's triggers, and what holds while a tick is in progress: TIMER's step by its cases, the two ways a tick
starts, and what HOST and TIMER leave alone (R501 to R506, R510, R520, R712). -/

namespace Sys2Proof.Machine

/-! ## TIMER's step -/

/-- Settles O26: without time, TIMER's step is the timer event where TICK_EN = 1. -/
theorem timerEventStartsOrIsDropped : Obligations.TimerEventStartsOrIsDropped := by
  intro s rest ha htimed
  rw [step_timer ha, if_neg (by simp [htimed])]
  refine ⟨fun ⟨htick, hp⟩ => ?_, fun ⟨htick, hp⟩ => ?_, fun htick => ?_⟩
  · rw [if_pos htick, timerEvent_idle hp]; rfl
  · rw [if_pos htick, timerEvent_busy hp]; rfl
  · rw [if_neg (by simp [htick])]; rfl

/-- A clock edge with TICK_EN = 0 holds TIMER at 0 (R501). -/
theorem clockEdge_stopped {b : Block} (h : b.tickEn = false) : b.clockEdge = { b with timer := 0#32 } := by
  simp [Block.clockEdge, h]

/-- A clock edge away from PERIOD − 1 counts (R501). -/
theorem clockEdge_counts {b : Block} (h : b.tickEn = true) (hne : b.timer ≠ b.period - 1#32) :
    b.clockEdge = { b with timer := b.timer + 1#32 } := by
  simp [Block.clockEdge, h, hne]

/-- A clock edge at PERIOD − 1 wraps TIMER with a timer event (R501). -/
theorem clockEdge_wraps {b : Block} (h : b.tickEn = true) (hw : b.timer = b.period - 1#32) :
    b.clockEdge = { b with timer := 0#32 }.timerEvent := by
  simp [Block.clockEdge, h, hw]

/-- Settles O27: TIMER's step is a clock edge, and the event at the wrap starts a tick or is dropped. -/
theorem clockEdgeCountsAndFires : Obligations.ClockEdgeCountsAndFires := by
  intro s rest ha htimed
  rw [step_timer ha, if_pos htimed]
  refine ⟨fun htick => ?_, fun ⟨htick, hne⟩ => ?_, fun ⟨htick, hw, hp⟩ => ?_, fun ⟨htick, hw, hp⟩ => ?_⟩
  · rw [clockEdge_stopped htick]
  · rw [clockEdge_counts htick hne]
  · rw [clockEdge_wraps htick hw, timerEvent_idle (by exact hp)]; rfl
  · rw [clockEdge_wraps htick hw, timerEvent_busy (by exact hp)]; rfl

/-! ## A tick starts -/

/-- The step that starts a tick from IDLE: the word of FORCE_TICK while stopped, or a timer event (R505, R607). -/
def startsTick (timed : Bool) (agenda : List Event) (b : Block) : Prop :=
  (∃ rest, agenda = .timer :: rest ∧ b.tickEn = true ∧ (timed = true → b.timer = b.period - 1#32)) ∨
    ∃ rest, agenda = .host (.write 0x034#12 fullStrobe 0x00000006#32) :: rest ∧ b.tickEn = false

/-- No other step leaves IDLE, and the tick begins by SP_PENDING, nothing held and SETPOINT as it was (R505, R510). -/
theorem blockEffect_starts {timed : Bool} {agenda : List Event} {b c : Block} (he : BlockEffect timed agenda b c)
    (hb : b.phase = .idle) (hc : c.phase ≠ .idle) :
    startsTick timed agenda b ∧ c.phase = (if b.spPending then .settgt else .refresh) ∧
      c.heldTarget = b.heldTarget := by
  cases he with
  | nothing => exact absurd hb hc
  | @host a rest _ _ he =>
    cases he with
    | start _ hl => exact ⟨.inr ⟨rest, rfl, (locked_eq_false.mp hl).1⟩, rfl, rfl⟩
    | raised | window => exact absurd (by simpa using hb) hc
    | same | ctrl | status | errCause | irqEn | cfg | period | missed | setpoint | data | result | snap =>
      exact absurd hb hc
  | @timer rest _ _ he =>
    cases he with
    | started htick hw => exact ⟨.inl ⟨rest, rfl, htick, hw⟩, rfl, rfl⟩
    | stopped | counted => exact absurd hb hc
    | dropped _ _ hp => exact absurd hb hp
  | seq he => rw [seqEffect_phase he, hb] at hc; exact absurd rfl hc
  | reset => exact absurd rfl hc

/-- Settles O45: by the effect of the step that leaves IDLE. -/
theorem ticksStartInTwoWaysOnly : Obligations.TicksStartInTwoWaysOnly := by
  intro s t hs hstep ht
  obtain ⟨hstart, hphase, -⟩ := blockEffect_starts (step_blockEffect hstep) hs ht
  refine ⟨?_, hstart⟩
  rw [hphase]
  split
  · exact .inl rfl
  · exact .inr rfl

/-! ## A tick in progress -/

/-- During a tick no host access moves the phase or the latches: FORCE_TICK is rejected (R506, R520, R600). -/
theorem hostEffect_tick {a : Access} {b c : Block} (he : HostEffect a b c) (hp : b.phase ≠ .idle) :
    c.phase = b.phase ∧ b.sameLatches c := by
  cases he with
  | start _ hl => exact absurd (locked_eq_false.mp hl).2 hp
  | raised | window => simp [Block.sameLatches]
  | same | ctrl | status | errCause | irqEn | cfg | period | missed | setpoint | data | result | snap =>
    exact ⟨rfl, (sameHidden_refl b).1⟩

/-- During a tick TIMER moves neither the phase nor the latches: its event is dropped (R503, R506). -/
theorem timerEffect_tick {timed : Bool} {b c : Block} (he : TimerEffect timed b c) (hp : b.phase ≠ .idle) :
    c.phase = b.phase ∧ b.sameLatches c := by
  cases he with
  | stopped | counted => exact ⟨rfl, (sameHidden_refl b).1⟩
  | started _ _ hidle => exact absurd hidle hp
  | dropped => simp [Block.sameLatches]

/-- During a tick only SEQ and reset move the phase and the latches (R506, R520). -/
theorem blockEffect_tick {timed : Bool} {ev : Event} {rest : List Event} {b c : Block}
    (he : BlockEffect timed (ev :: rest) b c) (hp : b.phase ≠ .idle) (hseq : ev.isSeq = false)
    (hreset : ev.isReset = false) : c.phase = b.phase ∧ b.sameLatches c := by
  cases he with
  | host he => exact hostEffect_tick he hp
  | timer he => exact timerEffect_tick he hp
  | seq => cases hseq
  | reset => cases hreset

/-- The requests of a step: what the phase asserts where the step is SEQ's, none otherwise (R507, R508). -/
theorem step_logs {s t : State} (h : step s = .next t) :
    (t.env.engLog = s.env.engLog ∧ t.env.pwmLog = s.env.pwmLog) ∨
      (s.env.agenda.head?.map Event.isSeq) = some true ∧
        t.env.engLog = s.blk.engineRequest.toList ++ s.env.engLog ∧
        t.env.pwmLog = s.blk.pwmRequest.toList ++ s.env.pwmLog := by
  rcases step_cases h with ⟨-, rfl⟩ | ⟨a, rest, -, -, -, -, -, heng, hpwm⟩ | ⟨rest, -, rfl⟩ |
    ⟨reply, rest, ha, -, -, -, -, -, heng, hpwm⟩ | ⟨n, rest, -, -, rfl⟩
  · exact .inl ⟨rfl, rfl⟩
  · exact .inl ⟨heng, hpwm⟩
  · exact .inl (by simp)
  · exact .inr ⟨by rw [ha]; rfl, heng, hpwm⟩
  · exact .inl ⟨rfl, rfl⟩

/-- Settles O35: neither HOST nor TIMER has an effect on the tick, and only SEQ's step makes requests. -/
theorem nothingButSeqMovesATickInProgress : Obligations.NothingButSeqMovesATickInProgress := by
  intro s t ev rest ha hseq hreset hp hstep
  have he := step_blockEffect hstep
  rw [ha] at he
  obtain ⟨hphase, hlatches⟩ := blockEffect_tick he hp hseq hreset
  refine ⟨hphase, hlatches, ?_⟩
  rcases step_logs hstep with hlogs | ⟨hhead, -⟩
  · exact hlogs
  · rw [ha] at hhead; simp [hseq] at hhead

/-! ## The lock -/

/-- No host access writes CFG or PERIOD while they are locked (R712, R714, R716). -/
theorem hostEffect_locked {a : Access} {b c : Block} (he : HostEffect a b c) (hl : b.locked = true) :
    c.cfg = b.cfg ∧ c.period = b.period := by
  cases he with
  | cfg _ _ h | period _ _ h => rw [hl] at h; cases h
  | raised | window => simp
  | same | ctrl | status | errCause | irqEn | missed | setpoint | data | result | snap | start => exact ⟨rfl, rfl⟩

/-- TIMER writes neither CFG nor PERIOD (R501). -/
theorem timerEffect_cfg {timed : Bool} {b c : Block} (he : TimerEffect timed b c) :
    c.cfg = b.cfg ∧ c.period = b.period := by
  cases he with
  | stopped | counted | started => exact ⟨rfl, rfl⟩
  | dropped => simp

/-- SEQ writes neither CFG nor PERIOD (R511 to R518). -/
theorem seqEffect_cfg {reply : Word} {b c : Block} (he : SeqEffect reply b c) :
    c.cfg = b.cfg ∧ c.period = b.period := by
  cases he with
  | idle | settgt | refresh | compute | getout | pwmwr | getvel | getraw | commit => simp

/-- While locked, no step but reset writes CFG or PERIOD (R712). -/
theorem blockEffect_locked {timed : Bool} {agenda : List Event} {b c : Block} (he : BlockEffect timed agenda b c)
    (hl : b.locked = true) (hr : ∀ n rest, agenda ≠ .reset n :: rest) : c.cfg = b.cfg ∧ c.period = b.period := by
  cases he with
  | nothing => exact ⟨rfl, rfl⟩
  | host he => exact hostEffect_locked he hl
  | timer he => exact timerEffect_cfg he
  | seq he => exact seqEffect_cfg he
  | @reset n rest => exact absurd rfl (hr n rest)

/-- Settles O48: the running timer or the tick in progress is the lock. -/
theorem configurationIsFixedWhileLocked : Obligations.ConfigurationIsFixedWhileLocked := by
  intro s t hstep hrun hr
  refine blockEffect_locked (step_blockEffect hstep) ?_ hr
  by_contra hl
  obtain ⟨htick, hp⟩ := locked_eq_false.mp (Bool.eq_false_of_not_eq_true hl)
  rcases hrun with h | h
  · rw [htick] at h; cases h
  · exact h hp

end Sys2Proof.Machine
end

section
/-! SUPPORT. Runs during a tick: what every step of a run without a reset answers, the commit within the remaining phases
whatever interleaves, and a tick run by SEQ alone (R506, R511 to R520). -/

namespace Sys2Proof.Machine

/-! ## Steps of a run -/

/-- A step that is no reset answers a next state, with its event taken off the agenda (R13, R802). -/
theorem step_answers {s : State} {ev : Event} {rest : List Event} (ha : s.env.agenda = ev :: rest)
    (hr : ev.isReset = false) : ∃ t, step s = .next t ∧ t.env.agenda = rest := by
  cases ev with
  | host a =>
    obtain ⟨t, ht, -, hagenda, -⟩ := host_step a (s.popped rest)
    exact ⟨t, (step_host ha).trans ht, hagenda⟩
  | timer => exact ⟨_, step_timer ha, rfl⟩
  | seq reply =>
    obtain ⟨t, ht, -, hagenda, -⟩ := step_seq_effect ha
    exact ⟨t, ht, hagenda⟩
  | reset n => cases hr

/-! ## The commit within the remaining phases -/

/-- After `k` steps the tick in progress is over, counted once, and it was not over before. -/
def State.commitsAfter (s : State) (k : Nat) : Prop :=
  ∃ t : State, Sys2Proof.core.run k s = .next t ∧ t.blk.phase = .idle ∧ t.blk.tickCount = s.blk.tickCount + 1#32 ∧
    ∀ (j : Nat) (u : State), j < k → Sys2Proof.core.run j s = .next u →
      u.blk.phase ≠ .idle ∧ u.blk.tickCount = s.blk.tickCount

/-- No step has been taken. -/
theorem core_run_zero {s u : State} (h : Sys2Proof.core.run 0 s = .next u) : s = u := by cases h; rfl

/-- The step that commits (R518). -/
theorem commitsAfter_one {s t : State} (hstep : step s = .next t) (hs : s.blk.phase ≠ .idle) (ht : t.blk.phase = .idle)
    (hcount : t.blk.tickCount = s.blk.tickCount + 1#32) : s.commitsAfter 1 := by
  refine ⟨t, core_run_succ hstep, ht, hcount, fun j u hj hu => ?_⟩
  obtain rfl : j = 0 := by omega
  obtain rfl := core_run_zero hu
  exact ⟨hs, rfl⟩

/-- A step that does not commit, before one that does. -/
theorem commitsAfter_succ {s t : State} {k : Nat} (hstep : step s = .next t) (hs : s.blk.phase ≠ .idle)
    (hcount : t.blk.tickCount = s.blk.tickCount) (h : t.commitsAfter k) : s.commitsAfter (k + 1) := by
  obtain ⟨u, hu, hidle, hone, hbefore⟩ := h
  refine ⟨u, (core_run_succ hstep).trans hu, hidle, hcount ▸ hone, fun j v hj hv => ?_⟩
  cases j with
  | zero => obtain rfl := core_run_zero hv; exact ⟨hs, rfl⟩
  | succ j =>
    rw [core_run_succ hstep] at hv
    rw [← hcount]
    exact hbefore j v (by omega) hv

/-- SEQ's step leaves fewer phases, and ends the tick in COMMIT only (R519). -/
theorem remaining_next (d : Bool) {p : Phase} (h : p ≠ .idle) :
    (p.next d).remaining + 1 ≤ p.remaining ∧ (p.next d = .idle ↔ p = .commit) := by
  revert h; cases d <;> cases p <;> decide

/-- A step of the tick but reset: an acknowledge leaves fewer phases, no other event moves the phase, and the tick is over
after the acknowledge in COMMIT only (R506, R519, R520). -/
theorem blockEffect_remaining {timed : Bool} {ev : Event} {rest : List Event} {b c : Block}
    (he : BlockEffect timed (ev :: rest) b c) (hp : b.phase ≠ .idle) (hr : ev.isReset = false) :
    c.phase.remaining + (if ev.isSeq then 1 else 0) ≤ b.phase.remaining ∧
      (c.phase = .idle ↔ b.phase = .commit ∧ ev.isSeq = true) := by
  cases hsq : ev.isSeq with
  | false => simp [(blockEffect_tick he hp hsq hr).1, hp]
  | true =>
    cases he with
    | seq he => simpa [seqEffect_phase he] using remaining_next b.cfg.dutySrc hp
    | host | timer | reset => cases hsq

/-- Any interleaving of the agents without a reset commits within the agenda where it acknowledges SEQ often enough
(R506, R520). -/
theorem commitsAfter_of_agenda (evs : List Event) {s : State} (ha : s.env.agenda = evs) (hs : s.blk.phase ≠ .idle)
    (hr : ∀ ev ∈ evs, ev.isReset = false) (hseq : s.blk.phase.remaining ≤ (evs.filter Event.isSeq).length) :
    ∃ k ≤ evs.length, s.commitsAfter k := by
  induction evs generalizing s with
  | nil =>
    have hpos := (remaining_next false hs).1
    simp only [List.filter_nil, List.length_nil] at hseq
    omega
  | cons ev rest ih =>
    obtain ⟨hev, hrest⟩ := List.forall_mem_cons.mp hr
    obtain ⟨t, hstep, hagenda⟩ := step_answers ha hev
    have he := step_blockEffect hstep
    rw [ha] at he
    obtain ⟨hfewer, hlast⟩ := blockEffect_remaining he hs hev
    have hcount := blockEffect_tickCount he (by rintro n r ⟨⟩; cases hev)
    simp only [List.head?_cons, Option.map_some, Option.some.injEq, ← hlast] at hcount
    by_cases ht : t.blk.phase = .idle
    · rw [if_pos ht] at hcount
      exact ⟨1, by simp, commitsAfter_one hstep hs ht hcount⟩
    · rw [if_neg ht, BitVec.add_zero] at hcount
      have hle : t.blk.phase.remaining ≤ (rest.filter Event.isSeq).length := by
        cases hsq : ev.isSeq <;> simp [hsq] at hseq hfewer <;> omega
      obtain ⟨k, hk, hcommits⟩ := ih hagenda ht hrest hle
      exact ⟨k + 1, Nat.succ_le_succ hk, commitsAfter_succ hstep hs hcount hcommits⟩

/-- Settles O36: by induction on the agenda. -/
theorem tickCommitsWithinItsPhases : Obligations.TickCommitsWithinItsPhases := by
  intro s hs hr hseq
  obtain ⟨k, hk, t, hrun, hidle, hcount, hbefore⟩ := commitsAfter_of_agenda _ rfl hs hr hseq
  exact ⟨k, t, hk, hrun, hidle, hcount, hbefore⟩

/-! ## A tick run by SEQ alone -/

/-- The block after SEQ's step acknowledged with `reply` (R511 to R518). -/
def Block.seqNext (b : Block) (reply : Word) : Block :=
  match b.phase with
  | .idle => b
  | .settgt => b.targetSet
  | .refresh => b.refreshed
  | .compute => b.computed
  | .getout => b.gotOut reply
  | .pwmwr => b.pwmSent
  | .getvel => b.gotVel reply
  | .getraw => b.gotRaw reply
  | .commit => b.commit

/-- The effect of SEQ's step is the one of its phase. -/
theorem seqEffect_eq {reply : Word} {b c : Block} (he : SeqEffect reply b c) : c = b.seqNext reply := by
  cases he with
  | idle h | settgt h | refresh h | compute h | getout h | pwmwr h | getvel h | getraw h | commit h =>
    simp [Block.seqNext, h]

/-- The block after SEQ's steps acknowledged with `replies`, in order. -/
def Block.seqRun (b : Block) (replies : List Word) : Block := replies.foldl Block.seqNext b

/-- The requests of one port that SEQ's steps make, newest first. -/
def Block.requests {α : Type} (port : Block → Option α) (b : Block) : List Word → List α
  | [] => []
  | reply :: replies => Block.requests port (b.seqNext reply) replies ++ (port b).toList

/-- A run of SEQ's steps alone: one acknowledge after the other, each request logged (R17, R519). -/
theorem core_run_seq (rest : List Event) (replies : List Word) {s : State}
    (ha : s.env.agenda = replies.map .seq ++ rest) :
    ∃ t, Sys2Proof.core.run replies.length s = .next t ∧ t.blk = s.blk.seqRun replies ∧ t.env.agenda = rest ∧
      t.env.engLog = s.blk.requests Block.engineRequest replies ++ s.env.engLog ∧
      t.env.pwmLog = s.blk.requests Block.pwmRequest replies ++ s.env.pwmLog := by
  induction replies generalizing s with
  | nil => exact ⟨s, rfl, rfl, ha, rfl, rfl⟩
  | cons reply replies ih =>
    obtain ⟨u, hstep, he, hagenda, -, -, -, heng, hpwm⟩ := step_seq_effect ha
    obtain ⟨t, hrun, hblk, hrest, heng', hpwm'⟩ := ih hagenda
    rw [seqEffect_eq he] at hblk heng' hpwm'
    refine ⟨t, (core_run_succ hstep).trans hrun, hblk, hrest, ?_, ?_⟩
    · rw [heng', heng, ← List.append_assoc]; rfl
    · rw [hpwm', hpwm, ← List.append_assoc]; rfl

/-- The replies of a tick from REFRESH on: the engine's output is the third, its velocity the fifth, and with
DUTY_SRC = 0 its raw output the sixth (R519). -/
def tickReplies (dutySrc : Bool) (r1 r2 out r4 vel raw r7 : Word) : List Word :=
  [r1, r2, out, r4, vel] ++ (if dutySrc then [] else [raw]) ++ [r7]

/-- The block after a whole tick from REFRESH on (R512 to R518). -/
def Block.ticked (b : Block) (out vel raw : Word) : Block :=
  let sampled := (b.refreshed.computed.gotOut out).pwmSent.gotVel vel
  (if b.cfg.dutySrc then sampled else sampled.gotRaw raw).commit

/-- SEQ's steps from REFRESH on make up the tick, with R519's requests in their order. -/
theorem seqRun_tick {b : Block} (hp : b.phase = .refresh) (r1 r2 out r4 vel raw r7 : Word) :
    let replies := tickReplies b.cfg.dutySrc r1 r2 out r4 vel raw r7
    b.seqRun replies = b.ticked out vel raw ∧
    b.requests Block.engineRequest replies = (if b.cfg.dutySrc then [] else [engWord 5#3 0#32]) ++
      [engWord 3#3 0#32, engWord 4#3 0#32, engWord 1#3 0#32, engWord 0#3 0#32] ∧
    b.requests Block.pwmRequest replies = [pwmWord b.cfg.pwmCh (saturate out b.cfg.pwmMax)] := by
  cases hd : b.cfg.dutySrc <;>
    simp [tickReplies, Block.seqRun, Block.ticked, Block.seqNext, Block.requests, Block.engineRequest,
      Block.pwmRequest, hp, hd]

/-- The duty sample of a tick: the raw output, or the value sent as binary32 (R516, R517). -/
def Block.dutySample (b : Block) (out raw : Word) : Word :=
  if b.cfg.dutySrc then F32.ofInt ((saturate out b.cfg.pwmMax).zeroExtend 32) else raw

/-- What a tick leaves in the registers (R518). -/
theorem ticked_registers (b : Block) (out vel raw : Word) :
    let c := b.ticked out vel raw
    c.phase = .idle ∧ c.setpoint = b.setpoint ∧ c.vw = b.vw.push vel ∧ c.dw = b.dw.push (b.dutySample out raw) ∧
      c.lastOut = out ∧ c.lastPwm = 0#16 ++ saturate out b.cfg.pwmMax ∧ c.tickCount = b.tickCount + 1#32 ∧
      c.sticky.tickDone = true := by
  rw [← zeroExtend_16]
  cases hd : b.cfg.dutySrc <;> simp [Block.ticked, Block.dutySample, hd]

/-- The replies of a tick that begins with E_SET_TARGET or with E_REFRESH. -/
def tickRepliesFrom (setTarget dutySrc : Bool) (r0 r1 r2 out r4 vel raw r7 : Word) : List Word :=
  (if setTarget then [r0] else []) ++ tickReplies dutySrc r1 r2 out r4 vel raw r7

/-- The block at REFRESH: where the tick begins with E_SET_TARGET, after that request (R511). -/
def Block.targeted (b : Block) (setTarget : Bool) : Block := if setTarget then b.targetSet else b

/-- A tick in each of R519's four orders, from its first phase on. -/
theorem seqRun_tickFrom {b : Block} {setTarget : Bool} (hp : b.phase = if setTarget then .settgt else .refresh)
    (r0 r1 r2 out r4 vel raw r7 : Word) :
    let replies := tickRepliesFrom setTarget b.cfg.dutySrc r0 r1 r2 out r4 vel raw r7
    b.seqRun replies = (b.targeted setTarget).ticked out vel raw ∧
    b.requests Block.engineRequest replies = (if b.cfg.dutySrc then [] else [engWord 5#3 0#32]) ++
      [engWord 3#3 0#32, engWord 4#3 0#32, engWord 1#3 0#32, engWord 0#3 0#32] ++
      (if setTarget then [engWord 2#3 b.target] else []) ∧
    b.requests Block.pwmRequest replies = [pwmWord b.cfg.pwmCh (saturate out b.cfg.pwmMax)] := by
  cases setTarget with
  | false =>
    obtain ⟨hblk, heng, hpwm⟩ := seqRun_tick hp r1 r2 out r4 vel raw r7
    exact ⟨hblk, heng.trans (List.append_nil _).symm, hpwm⟩
  | true =>
    obtain ⟨hblk, heng, hpwm⟩ := seqRun_tick (b := b.targetSet) rfl r1 r2 out r4 vel raw r7
    have hnext : b.seqNext r0 = b.targetSet := by simp [Block.seqNext, hp]
    have hreq : b.engineRequest = some (engWord 2#3 b.target) := engineRequest_of_phase hp
    have hnone : b.pwmRequest = none := by simp [Block.pwmRequest, hp]
    refine ⟨?_, ?_, ?_⟩
    · show (b.seqNext r0).seqRun _ = _
      rw [hnext]; exact hblk
    · show Block.requests _ (b.seqNext r0) _ ++ b.engineRequest.toList = _
      rw [hnext, hreq]; exact congrArg (· ++ [engWord 2#3 b.target]) heng
    · show Block.requests _ (b.seqNext r0) _ ++ b.pwmRequest.toList = _
      rw [hnext, hnone]; exact (List.append_nil _).trans hpwm

/-- E_SET_TARGET leaves SETPOINT, the windows, CFG and TICK_COUNT (R511). -/
@[simp] theorem targeted_frame (b : Block) (setTarget : Bool) :
    (b.targeted setTarget).setpoint = b.setpoint ∧ (b.targeted setTarget).vw = b.vw ∧
      (b.targeted setTarget).dw = b.dw ∧ (b.targeted setTarget).cfg = b.cfg ∧
      (b.targeted setTarget).tickCount = b.tickCount := by
  cases setTarget <;> exact ⟨rfl, rfl, rfl, rfl, rfl⟩

/-- The duty sample is the raw output where DUTY_SRC = 0, and exactly the value sent where it is 1 (R516, R517). -/
theorem dutySample_spec (b : Block) (out raw : Word) :
    (b.cfg.dutySrc = false → b.dutySample out raw = raw) ∧
      (b.cfg.dutySrc = true → F32.isFinite (b.dutySample out raw) = true ∧
        F32.value (b.dutySample out raw) = ((saturate out b.cfg.pwmMax).toNat : Int) * 2 ^ 149) := by
  refine ⟨fun hd => if_neg (by simp [hd]), fun hd => ?_⟩
  rw [Block.dutySample, if_pos hd]
  exact f32_ofInt_zeroExtend _

/-- Settles O37: SEQ's steps alone make the tick of the four orders, and the value sent is converted exactly. -/
theorem wholeTickMovesTheEnginesAnswers : Obligations.WholeTickMovesTheEnginesAnswers := by
  intro s setTarget r0 r1 r2 out r4 vel raw r7 rest hp ha
  have hreplies : s.env.agenda =
      (tickRepliesFrom setTarget s.blk.cfg.dutySrc r0 r1 r2 out r4 vel raw r7).map .seq ++ rest := by
    rw [ha]; cases setTarget <;> cases s.blk.cfg.dutySrc <;> rfl
  have hlength : (if setTarget then 1 else 0) + 5 + (if s.blk.cfg.dutySrc then 0 else 1) + 1 =
      (tickRepliesFrom setTarget s.blk.cfg.dutySrc r0 r1 r2 out r4 vel raw r7).length := by
    cases setTarget <;> cases s.blk.cfg.dutySrc <;> rfl
  obtain ⟨t, hrun, hblk, hagenda, heng, hpwm⟩ := core_run_seq rest _ hreplies
  obtain ⟨hticked, hengs, hpwms⟩ := seqRun_tickFrom hp r0 r1 r2 out r4 vel raw r7
  obtain ⟨hraw, hsent⟩ := dutySample_spec s.blk out raw
  obtain ⟨hidle, hset, hvw, hdw, hout, hlast, hcount, hdone⟩ :=
    ticked_registers (s.blk.targeted setTarget) out vel raw
  rw [← hticked, ← hblk] at hidle hset hvw hdw hout hlast hcount hdone
  simp only [targeted_frame, Block.dutySample] at hset hvw hdw hlast hcount
  rw [hengs] at heng
  rw [hpwms] at hpwm
  rw [hlength]
  exact ⟨t, s.blk.dutySample out raw, hrun, hraw, hsent, hidle, hagenda, hset, hvw, hdw, hout, hlast, hcount, hdone,
    hpwm, heng⟩

end Sys2Proof.Machine
end

section
/-! SUPPORT. A SETPOINT write made during a tick waits for the next tick: an invariant of the steps up to the end of the tick
in progress, and the first step of the next (R132, R331, R511, R524; assumption 19). -/

namespace Sys2Proof.Machine

/-! ## Runs, step by step -/

/-- A run of any machine with a step left takes it first. -/
theorem run_succ_next (M : Host.Core) {s t : M.State} {k : Nat} (h : M.run (k + 1) s = .next t) :
    ∃ u, M.step s = .next u ∧ M.run k u = .next t := by
  rw [Host.Core.run] at h
  split at h
  next u hu => exact ⟨u, hu, h⟩
  all_goals cases h

/-- What every step during a tick keeps holds after any run whose every step is taken during a tick. -/
theorem core_run_busy_induction {P : State → Prop}
    (hstep : ∀ u v : State, P u → u.blk.phase ≠ .idle → step u = .next v → P v) {k : Nat} {s t : State} (hs : P s)
    (hrun : Sys2Proof.core.run k s = .next t)
    (hbusy : ∀ (j : Nat) (u : State), j < k → Sys2Proof.core.run j s = .next u → u.blk.phase ≠ .idle) : P t := by
  induction k generalizing s with
  | zero => obtain rfl := core_run_zero hrun; exact hs
  | succ k ih =>
    obtain ⟨u, hu, hrest⟩ := run_succ_next Sys2Proof.core hrun
    refine ih (hstep s u hs (hbusy 0 s (by omega) rfl) hu) hrest fun j v hj hv => ?_
    exact hbusy (j + 1) v (by omega) ((core_run_succ hu).trans hv)

/-- A step takes its event off the agenda (R13). -/
theorem step_agenda {s t : State} (h : step s = .next t) : t.env.agenda = s.env.agenda.tail := by
  rcases step_cases h with ⟨ha, rfl⟩ | ⟨a, rest, ha, -, hagenda, -⟩ | ⟨rest, ha, rfl⟩ |
    ⟨reply, rest, ha, -, hagenda, -⟩ | ⟨n, rest, ha, -, rfl⟩
  · rw [ha]; rfl
  · rw [ha, hagenda]; rfl
  · rw [ha, timerStep_env]; rfl
  · rw [ha, hagenda]; rfl
  · rw [ha]; rfl

/-! ## The request held during a tick -/

/-- A setpoint written during a tick waits: it stays pending, and a SET_TARGET request still standing is held apart from it,
carrying `target`, in a tick that `stood` in SETTGT at the write (R331, R524; assumption 19). -/
def Block.setpointWaits (stood : Prop) (target : Word) (b : Block) : Prop :=
  b.spPending = true ∧ (b.phase = .settgt → stood ∧ b.heldTarget = some target)

/-- The write itself (R729). -/
theorem setpointWritten_waits {b : Block} (v : Word) :
    (b.setpointWritten v).setpointWaits (b.phase = .settgt) b.target :=
  ⟨rfl, fun hp => ⟨hp, if_pos hp⟩⟩

/-- A later write of SETPOINT keeps the word held (R331). -/
theorem setpointWritten_held {b : Block} {target : Word} (v : Word) (hp : b.phase = .settgt)
    (hh : b.heldTarget = some target) : (b.setpointWritten v).heldTarget = some target := by
  rw [setpointWritten_heldTarget, if_pos hp, target_of_some hh]

section
variable {stood : Prop} {target : Word} {b c : Block}

/-- During a tick no host access moves it on. -/
theorem hostEffect_waits {a : Access} (he : HostEffect a b c) (hp : b.phase ≠ .idle)
    (h : b.setpointWaits stood target) : c.setpointWaits stood target := by
  obtain ⟨hsp, hheld⟩ := h
  refine ⟨hostEffect_spPending he hsp, fun hc => ?_⟩
  have hset : b.phase = .settgt := (hostEffect_tick he hp).1 ▸ hc
  obtain ⟨hstood, hb⟩ := hheld hset
  refine ⟨hstood, ?_⟩
  cases he with
  | setpoint _ w => exact setpointWritten_held w hset hb
  | raised | window => simpa using hb
  | same | ctrl | status | errCause | irqEn | cfg | period | missed | data | result | snap | start => exact hb

/-- During a tick TIMER does not move it on. -/
theorem timerEffect_waits {timed : Bool} (he : TimerEffect timed b c) (hp : b.phase ≠ .idle)
    (h : b.setpointWaits stood target) : c.setpointWaits stood target := by
  obtain ⟨-, -, -, -, hpending, -⟩ := timerEffect_frame he
  obtain ⟨hsp, hheld⟩ := h
  refine ⟨hpending.trans hsp, fun hc => ?_⟩
  obtain ⟨hstood, hb⟩ := hheld ((timerEffect_tick he hp).1 ▸ hc)
  refine ⟨hstood, ?_⟩
  cases he with
  | stopped | counted | started => exact hb
  | dropped => simpa using hb

/-- No phase leads to SETTGT (R519). -/
theorem next_ne_settgt (d : Bool) (p : Phase) : p.next d ≠ .settgt := by cases d <;> cases p <;> decide

/-- SEQ leaves SETTGT with the held word, so the setpoint stays pending (R511, R524). -/
theorem seqEffect_waits {reply : Word} (he : SeqEffect reply b c) (h : b.setpointWaits stood target) :
    c.setpointWaits stood target := by
  obtain ⟨hsp, hheld⟩ := h
  refine ⟨?_, fun hc => absurd ((seqEffect_phase he).symm.trans hc) (next_ne_settgt _ _)⟩
  cases he with
  | settgt hp => rw [targetSet_spPending, (hheld hp).2]; rfl
  | idle | refresh | compute | getout | pwmwr | getvel | getraw | commit => simpa using hsp

/-- During a tick only reset ends the wait. -/
theorem blockEffect_waits {timed : Bool} {agenda : List Event} (he : BlockEffect timed agenda b c)
    (hp : b.phase ≠ .idle) (hr : ∀ n rest, agenda ≠ .reset n :: rest) (h : b.setpointWaits stood target) :
    c.setpointWaits stood target := by
  cases he with
  | nothing => exact h
  | host he => exact hostEffect_waits he hp h
  | timer he => exact timerEffect_waits he hp h
  | seq he => exact seqEffect_waits he h
  | @reset n rest => exact absurd rfl (hr n rest)

/-- A SET_TARGET request asserted meanwhile carries `target`, the operation of no other request being 2 (R330, R331). -/
theorem engineRequest_waits {w : BitVec 35} (h : b.setpointWaits stood target) (hw : b.engineRequest = some w)
    (hop : w.extractLsb' 32 3 = 2#3) : stood ∧ w = engWord 2#3 target := by
  obtain ⟨-, hheld⟩ := h
  obtain ⟨op, d, rfl⟩ : ∃ op d, w = engWord op d := ⟨_, _, (engWord_of_fields w).symm⟩
  rw [engWord_eop] at hop
  rcases engineRequest_phase hw with ⟨hp, -, hd⟩ | ⟨-, hne, -⟩ | ⟨-, hne, -⟩ | ⟨-, hne, -⟩ | ⟨-, hne, -⟩ | ⟨-, hne, -⟩
  · obtain ⟨hstood, hb⟩ := hheld hp
    exact ⟨hstood, by rw [hop, hd, target_of_some hb]⟩
  all_goals rw [hop] at hne; exact absurd hne (by decide)

end

/-! ## Until the tick is over -/

/-- What the steps of the tick in progress keep, once the host has written `v` to SETPOINT in the state `s` with the events
`rest` to come: `u` is a state on the way (R524). -/
structure State.Deferred (s : State) (v : Word) (rest : List Event) (u : State) : Prop where
  /-- Only the events of `rest` are still to come. -/
  agenda : u.env.agenda <:+ rest
  waits : u.blk.setpointWaits (s.blk.phase = .settgt) s.blk.target
  /-- Only a further write replaces `v`. -/
  setpoint : (∀ w : Word, Event.host (.write 0x02C#12 fullStrobe w) ∉ rest) → u.blk.setpoint = v
  /-- Any SET_TARGET sent since carries the value from before the write. -/
  sent : ∃ sent : List (BitVec 35), u.env.engLog = sent ++ s.env.engLog ∧
    ∀ w ∈ sent, w.extractLsb' 32 3 = 2#3 → s.blk.phase = .settgt ∧ w = engWord 2#3 s.blk.target

/-- The write of SETPOINT (R729). -/
theorem step_host_setpoint {s : State} {v : Word} {rest : List Event}
    (ha : s.env.agenda = .host (.write 0x02C#12 fullStrobe v) :: rest) :
    step s = .next ((s.popped rest).answered (s.blk.setpointWritten v) (.done none)) :=
  step_host_decoded ha rfl

/-- It holds right after the write. -/
theorem deferred_written {s : State} (v : Word) (rest : List Event) :
    s.Deferred v rest ((s.popped rest).answered (s.blk.setpointWritten v) (.done none)) where
  agenda := List.suffix_rfl
  waits := setpointWritten_waits v
  setpoint := fun _ => rfl
  sent := ⟨[], rfl, nofun⟩

/-- Every step during the tick keeps it, where no reset is to come. -/
theorem step_deferred {s u t : State} {v : Word} {rest : List Event} (hr : ∀ ev ∈ rest, ev.isReset = false)
    (h : s.Deferred v rest u) (hp : u.blk.phase ≠ .idle) (hstep : step u = .next t) : s.Deferred v rest t := by
  obtain ⟨hagenda, hwaits, hset, sent, hlog, hsent⟩ := h
  have he := step_blockEffect hstep
  have hmem {ev : Event} {tail : List Event} (ha : u.env.agenda = ev :: tail) : ev ∈ rest :=
    hagenda.subset (by rw [ha]; exact List.mem_cons_self)
  have hnoreset (n : Nat) (tail : List Event) : u.env.agenda ≠ .reset n :: tail :=
    fun ha => by cases hr _ (hmem ha)
  refine ⟨?_, blockEffect_waits he hp hnoreset hwaits, fun hw => ?_, ?_⟩
  · rw [step_agenda hstep]; exact (List.tail_suffix _).trans hagenda
  · rw [← hset hw]
    by_contra hne
    obtain ⟨w, tail, ha, -⟩ := (blockEffect_setpoint he hnoreset).1 hne
    exact hw w (hmem ha)
  · rcases step_logs hstep with ⟨heng, -⟩ | ⟨-, heng, -⟩
    · exact ⟨sent, heng.trans hlog, hsent⟩
    · refine ⟨u.blk.engineRequest.toList ++ sent, by rw [heng, hlog, List.append_assoc], fun w hw hop => ?_⟩
      rcases List.mem_append.mp hw with hw | hw
      · exact engineRequest_waits hwaits (Option.mem_toList.mp hw) hop
      · exact hsent w hw hop

/-! ## The next tick -/

/-- Between ticks a pending setpoint stays pending, and the step that starts a tick starts it with its request
(R510, R511, R524). -/
theorem step_forwards {s t : State} (hinv : s.Inv) (hp : s.blk.phase = .idle) (hsp : s.blk.spPending = true)
    (hr : ∀ n rest, s.env.agenda ≠ .reset n :: rest) (hstep : step s = .next t) :
    t.blk.spPending = true ∧
      (t.blk.phase ≠ .idle → t.blk.phase = .settgt ∧ t.blk.engineRequest = some (engWord 2#3 t.blk.setpoint)) := by
  have he := step_blockEffect hstep
  refine ⟨?_, fun ht => ?_⟩
  · by_contra hne
    obtain ⟨-, -, -, hset⟩ := (blockEffect_setpoint he hr).2.2 hsp (Bool.eq_false_of_not_eq_true hne)
    rw [hp] at hset; cases hset
  · obtain ⟨-, hphase, hheld⟩ := blockEffect_starts he hp ht
    rw [if_pos hsp] at hphase
    have hnone : s.blk.heldTarget = none := by
      obtain ⟨-, -, -, -, hnone, -⟩ := hinv
      exact hnone (by simp [hp])
    refine ⟨hphase, ?_⟩
    rw [engineRequest_of_phase hphase, target_of_none (hheld.trans hnone)]
    rfl

/-- Settles O60: the write's effect holds after its step and is kept by every later step of the tick; the next tick starts
from an idle block with the setpoint pending. -/
theorem setpointWriteWaitsForTheNextTick : Obligations.SetpointWriteWaitsForTheNextTick := by
  refine ⟨fun s t v rest k _ _ ha hr hrun hbusy => ?_, fun s t => step_forwards⟩
  have hwrite := step_host_setpoint ha
  rw [core_run_succ hwrite] at hrun
  obtain ⟨-, ⟨hsp, -⟩, hset, hsent⟩ :=
    core_run_busy_induction (P := s.Deferred v rest) (fun _ _ => step_deferred hr) (deferred_written v rest) hrun
      fun j u hj hu => hbusy (j + 1) u hj ((core_run_succ hwrite).trans hu)
  exact ⟨hsp, hset, hsent⟩

end Sys2Proof.Machine
end

section
/-! SUPPORT. The commands beside the windows: SNAP and NOP, which no check turns away, and FORCE_TICK, which starts a tick in
a stopped block (R510, R600, R604, R605, R607). -/

namespace Sys2Proof.Machine

/-- Settles O23: no check of R600 stands before SNAP or NOP, so what each answers computes to R605's and R604's effect. -/
theorem snapTakesFiveValuesOfOneState : Obligations.SnapTakesFiveValuesOfOneState := fun _ => ⟨rfl, rfl⟩

/-- A tick just started is in progress: neither of its first phases is IDLE (R131, R510). -/
theorem startTick_busy (b : Block) : b.startTick.busy = true := by
  rw [busy_eq_decide, startTick_phase, decide_eq_true_iff]
  split
  next => nofun
  next => nofun

/-- Settles O24: FORCE_TICK by R600's checks, and BUSY as bit 0 of STATUS. -/
theorem forceTickStartsATick : Obligations.ForceTickStartsATick := by
  have hcases (s : State) := exec_ifStopped_cases (i := .forceTick) (s := s) rfl
  refine ⟨fun s h => ⟨(hcases s).1 h, ?_⟩, fun s => (hcases s).2⟩
  obtain ⟨hbusy, -⟩ := status_low s.blk.startTick
  exact hbusy.trans (startTick_busy s.blk)

end Sys2Proof.Machine
end

section
/-! SUPPORT. Register access: the event bits of STATUS and IRQ_EN as whole words, the interrupt line read off them, the
configuration lock, and what each read and write of a register answers (R204, R209, R504, R701 to R744, R820). -/

namespace Sys2Proof.Machine

/-! ## Words that differ only in the event bits -/

/-- Two words that agree outside bits 2 to 7 are equal exactly when those six bits are (R103, R106). -/
theorem word_eq_iff_eventBits {v w : Word} (h : ∀ k < 32, k < 2 ∨ 8 ≤ k → v.getLsbD k = w.getLsbD k) :
    v = w ↔ v.getLsbD 2 = w.getLsbD 2 ∧ v.getLsbD 3 = w.getLsbD 3 ∧ v.getLsbD 4 = w.getLsbD 4 ∧
      v.getLsbD 5 = w.getLsbD 5 ∧ v.getLsbD 6 = w.getLsbD 6 ∧ v.getLsbD 7 = w.getLsbD 7 := by
  refine ⟨fun he => by simp [he], fun ⟨h2, h3, h4, h5, h6, h7⟩ => BitVec.eq_of_getLsbD_eq fun k hk32 => ?_⟩
  by_cases hk : k < 2 ∨ 8 ≤ k
  · exact h k hk32 hk
  · obtain ⟨hlo, hhi⟩ : 2 ≤ k ∧ k < 8 := by omega
    interval_cases k <;> assumption

/-- Outside bits 2 to 7 the mask 0xFC is 0. -/
theorem eventMask_reserved : ∀ k < 32, k < 2 ∨ 8 ≤ k → (0xFC#32).getLsbD k = false := by decide

/-- The bits kept of a written word read back as that word masked with 0xFC (R710, R711). -/
theorem toWord_ofWord (w : Word) : (EventBits.ofWord w).toWord = w &&& 0xFC#32 := by
  rw [word_eq_iff_eventBits fun k h32 hk => by
    rw [toWord_reserved _ k hk, BitVec.getLsbD_and, eventMask_reserved k h32 hk, Bool.and_false]]
  simp only [toWord_bits, BitVec.getLsbD_and, EventBits.ofWord]
  simp

/-- Outside bits 2 to 7, STATUS does not depend on the sticky bits (R103). -/
theorem statusWord_sticky_elsewhere (b : Block) (e : EventBits) {k : Nat} (hk : k < 2 ∨ 8 ≤ k) :
    ({ b with sticky := e } : Block).statusWord.getLsbD k = b.statusWord.getLsbD k := by
  rcases hk with hlo | hhi
  · interval_cases k
    · exact (status_low _).1.trans (status_low b).1.symm
    · exact (status_low _).2.1.trans (status_low b).2.1.symm
  · rw [status_high _ k hhi, status_high b k hhi]

/-- Writing 1 to clear the sticky bits clears them in the STATUS word (R706). -/
theorem statusWord_clear (b : Block) (w : Word) :
    ({ b with sticky := b.sticky.clear (EventBits.ofWord w) } : Block).statusWord =
      b.statusWord &&& ~~~(w &&& 0xFC#32) := by
  rw [word_eq_iff_eventBits fun k h32 hk => by
    rw [statusWord_sticky_elsewhere b _ hk, BitVec.getLsbD_and, BitVec.getLsbD_not, BitVec.getLsbD_and,
      eventMask_reserved k h32 hk]
    simp [h32]]
  simp only [status_low, BitVec.getLsbD_and, BitVec.getLsbD_not, EventBits.clear, EventBits.ofWord]
  simp

/-- `irq` is 1 exactly if STATUS and IRQ_EN, as words, have a bit in common (R820). -/
theorem irq_iff_words_meet (b : Block) : b.irq = true ↔ b.statusWord &&& b.irqEn.toWord ≠ 0#32 := by
  rw [← Bool.not_eq_false, Ne, not_iff_not, word_eq_iff_eventBits fun k _ hk => by
    rw [BitVec.getLsbD_and, toWord_reserved _ k hk, Bool.and_false, BitVec.getLsbD_zero]]
  simp only [BitVec.getLsbD_and, status_low, toWord_bits, BitVec.getLsbD_zero, Block.irq, EventBits.meets,
    Bool.or_eq_false_iff, and_assoc]

/-- Settles O12: the bits written 1 are cleared in the STATUS word. -/
theorem writeStatusClearsTheBitsWritten : Obligations.WriteStatusClearsTheBitsWritten :=
  fun s w => ⟨s.blk.sticky.clear (EventBits.ofWord w), rfl, statusWord_clear s.blk w⟩

/-- Settles O13: the enables read back masked, and `irq` is where they meet STATUS, which the write leaves alone. -/
theorem writeIrqEnKeepsBits2To7 : Obligations.WriteIrqEnKeepsBits2To7 := by
  refine fun s w => ⟨EventBits.ofWord w, rfl, toWord_ofWord w, ?_⟩
  have hstatus : ({ s.blk with irqEn := EventBits.ofWord w } : Block).statusWord = s.blk.statusWord := rfl
  rw [irq_iff_words_meet, hstatus, toWord_ofWord, BitVec.and_assoc]

/-! ## The configuration lock -/

/-- What a full-strobe write of a register under the lock answers: the write while the block is stopped, the rejection
while it is not (R712). -/
theorem exec_writeLocked_cases {i : Instr} {s : State} {off : Offset} {w : Word} {f : Block → Block}
    (h : exec i s = writeReg off fullStrobe w (fun b => b.writeLocked off f) s) :
    (s.blk.tickEn = false ∧ s.blk.phase = .idle → exec i s = .next (s.answered (f s.blk) (.done none))) ∧
    (s.blk.tickEn = true ∨ s.blk.phase ≠ .idle → exec i s = .next (s.answered
      (s.blk.raise .cfgLocked (accessInfo (.write off fullStrobe 0#32))) (.done none))) := by
  have hwrite : exec i s = .next (s.answered (s.blk.writeLocked off f) (.done none)) := h
  rw [hwrite]
  refine ⟨fun hs => ?_, fun hs => ?_⟩
  · rw [Block.writeLocked, locked_eq_false.mpr hs]
    rfl
  · have hlocked : s.blk.locked = true := by
      rw [← Bool.not_eq_false, locked_eq_false]
      rcases hs with hs | hs <;> simp [hs]
    rw [Block.writeLocked, if_pos hlocked]

/-- The fields kept of a word written to CFG read back as that word without bits 15:9 (R713, R714). -/
theorem cfg_toWord_ofWord (w : Word) : (Cfg.ofWord w).toWord = w &&& 0xFFFF01FF#32 := by
  have hmask : ∀ k < 32, (0xFFFF01FF#32).getLsbD k = decide (k < 9 ∨ 16 ≤ k) := by decide
  refine BitVec.eq_of_getLsbD_eq fun k h32 => ?_
  rw [BitVec.getLsbD_and, hmask k h32]
  unfold Cfg.toWord Cfg.ofWord
  simp only [BitVec.getLsbD_append, BitVec.getLsbD_extractLsb', BitVec.getLsbD_ofBool, BitVec.getLsbD_zero]
  obtain hk | rfl | hk | hk : k < 8 ∨ k = 8 ∨ (9 ≤ k ∧ k < 16) ∨ 16 ≤ k := by omega
  · simp [hk, show k < 9 by omega]
  · simp
  · simp [show ¬ k < 8 by omega, show ¬ k - 8 < 1 by omega, show k - 8 - 1 < 7 by omega, hk]
  · simp [show ¬ k < 8 by omega, show ¬ k - 8 < 1 by omega, show ¬ k - 8 - 1 < 7 by omega, hk,
      show k - 8 - 1 - 7 = k - 16 by omega, show k - 16 < 16 by omega, show 16 + (k - 16) = k by omega]

/-- Settles O15: both registers by the lock, and CFG's fields as they read back. -/
theorem configurationWritesAndLock : Obligations.ConfigurationWritesAndLock := by
  intro s w
  obtain ⟨hcfg, hcfgLocked⟩ := exec_writeLocked_cases (i := .wrCfg fullStrobe w) (s := s) (w := w) rfl
  obtain ⟨hperiod, hperiodLocked⟩ := exec_writeLocked_cases (i := .wrPeriod fullStrobe w) (s := s) (w := w) rfl
  exact ⟨fun h => ⟨⟨Cfg.ofWord w, hcfg h, rfl, rfl, rfl, cfg_toWord_ofWord w⟩, hperiod h⟩,
    fun h => ⟨hcfgLocked h, hperiodLocked h⟩⟩

/-! ## TIMER -/

/-- While the timer runs in a run without time, a read of TIMER is the next draw, brought into range (R504, R717). -/
theorem exec_rdTimer_drawn {s : State} (hrun : s.blk.tickEn = true) (hfree : s.env.timed = false) :
    exec .rdTimer s = .next { s with
      env := { s.env with
        draws := s.env.draws + 1
        resp := .done (some (timerDrawIn s.blk.period (Config.timerDraw s.env.draws))) } } :=
  if_pos (by simp [hrun, hfree])

/-- A draw brought into range is below a PERIOD that is not 0 (R504). -/
theorem timerDrawIn_lt {period : Word} (h : period ≠ 0#32) (draw : Word) : timerDrawIn period draw < period := by
  rw [timerDrawIn, if_neg h]
  exact BitVec.umod_lt draw ((BitVec.pos_iff_ne_zero _).mpr h)

/-- Settles O9: exact as every other register, 0 by the invariant's clause on a stopped TIMER, and else a draw. -/
theorem timerReadsAreExactOrInRange : Obligations.TimerReadsAreExactOrInRange := by
  have hexact (s : State) (h : s.blk.tickEn = false ∨ s.env.timed = true) :
      exec .rdTimer s = .next (s.answered s.blk (.done (some s.blk.timer))) := by
    obtain ⟨v, hv, he⟩ := read_answersRegister (off := 0x020#12) s rfl fun _ => h
    cases hv
    exact he
  refine ⟨hexact, fun s hinv hstop => ?_, fun s hrun hfree => ?_⟩
  · obtain ⟨hzero, -⟩ := hinv
    rw [hexact s (.inl hstop), hzero hstop]
  · exact ⟨_, exec_rdTimer_drawn hrun hfree, fun hp => Nat.le_sub_one_of_lt (timerDrawIn_lt hp _)⟩

/-! ## CMD -/

/-- Settles O19: `execCmd` runs what the decoder reads and turns away what it refuses; a partial strobe comes before. -/
theorem cmdWriteRunsTheCommand : Obligations.CmdWriteRunsTheCommand := by
  refine ⟨fun c i s hd => ?_, illegalCommandWordsRaise.2, execCmd_completes, fun c strb s hs => ?_⟩
  · have hcmd : decodeCmd c = .ok i := hd
    have heq : exec (.wrCmd fullStrobe c) s = execCmd c s := rfl
    rw [heq, execCmd_eq, hcmd]
  · exact partialWrite_eq_busError (off := 0x034#12) s rfl hs

/-! ## The other registers -/

/-- Settles O7: no state stands in the way of a read, so what each answers computes to its register. -/
theorem controlRegisterReads : Obligations.ControlRegisterReads := by
  intro s
  and_intros <;> rfl

/-- Settles O8: no state stands in the way of a read, so what each answers computes to its register. -/
theorem statisticRegisterReads : Obligations.StatisticRegisterReads := by
  intro s
  and_intros <;> rfl

/-- Settles O11: neither the lock nor a tick in progress guards CTRL, so the write computes to R704's effect. -/
theorem writeCtrlStartsAndStopsTheTimer : Obligations.WriteCtrlStartsAndStopsTheTimer := fun _ _ => rfl

/-- Outside SETTGT a write of SETPOINT holds no request word (R729). -/
theorem setpointWritten_of_ne_settgt {b : Block} (w : Word) (h : b.phase ≠ .settgt) :
    b.setpointWritten w = { b with setpoint := w, spPending := true } := by
  rw [Block.setpointWritten, if_neg h]

/-- In SETTGT a write of SETPOINT holds the request word that stands (R331, R524; assumption 19). -/
theorem setpointWritten_of_settgt {b : Block} (w : Word) (h : b.phase = .settgt) :
    b.setpointWritten w =
      { b with setpoint := w, spPending := true, heldTarget := some (b.heldTarget.getD b.setpoint) } := by
  rw [Block.setpointWritten, if_pos h, Block.target]

/-- Settles O14: ERR_CAUSE, MISSED and DATA are guarded by nothing; SETPOINT is written by the phase. -/
theorem plainRegisterWrites : Obligations.PlainRegisterWrites := by
  intro s w
  have hset : exec (.wrSetpoint fullStrobe w) s = .next (s.answered (s.blk.setpointWritten w) (.done none)) := rfl
  refine ⟨rfl, rfl, fun h => ?_, fun h => ?_, rfl⟩
  · rw [hset, setpointWritten_of_ne_settgt w h]
  · rw [hset, setpointWritten_of_settgt w h]

/-- Settles O17: each row is the bus error at its register's own offset, whose information word computes. -/
theorem readOnlyWritesAreBusErrors : Obligations.ReadOnlyWritesAreBusErrors := by
  intro s strb w
  and_intros <;> rfl

end Sys2Proof.Machine
end

section
/-! SUPPORT. Exceptions: what `raise` does to the STATUS word, the interrupt line read off two registers, and the machine
that steps on after every error (R800 to R825, R900). -/

namespace Sys2Proof.Machine

/-! ## raise -/

/-- Marking a cause sets its own bit in the STATUS word and no other (R800, R810). -/
theorem statusWord_mark (b : Block) (e : Cause) :
    ({ b with sticky := b.sticky.mark e } : Block).statusWord = b.statusWord ||| (EventBits.zero.mark e).toWord := by
  rw [word_eq_iff_eventBits fun k _ hk => by
    rw [statusWord_sticky_elsewhere b _ hk, BitVec.getLsbD_or, toWord_reserved _ k hk, Bool.or_false]]
  simp only [status_low, toWord_bits, BitVec.getLsbD_or]
  cases e <;> simp [EventBits.mark, EventBits.zero]

/-- `raise` sets its cause's bit in the STATUS word and no other, whether or not it captures the cause (R810). -/
theorem raise_statusWord (b : Block) (e : Cause) (info : Word) :
    (b.raise e info).statusWord = b.statusWord ||| (EventBits.zero.mark e).toWord := by
  rw [← statusWord_mark]
  unfold Block.raise
  split <;> rfl

/-- With the sticky bits, ERR_CAUSE and ERR_INFO put back, the block is as it was before `raise` (R810, R823). -/
theorem raise_error_fields_restored (b : Block) (e : Cause) (info : Word) :
    { b.raise e info with sticky := b.sticky, errCause := b.errCause, errInfo := b.errInfo } = b := by
  unfold Block.raise
  split <;> rfl

/-- Settles O38: the STATUS bit and the code are read off R800's seven rows, the rest holds of every cause. -/
theorem raiseRecordsTheFirstError : Obligations.RaiseRecordsTheFirstError := by
  intro b info e bit code hrow
  obtain ⟨hcode, hbit⟩ : e.code.toNat = code ∧ (EventBits.zero.mark e).toWord = 1#32 <<< bit := by
    simp only [List.mem_cons, List.not_mem_nil, or_false, Prod.mk.injEq] at hrow
    rcases hrow with ⟨rfl, rfl, rfl⟩ | ⟨rfl, rfl, rfl⟩ | ⟨rfl, rfl, rfl⟩ | ⟨rfl, rfl, rfl⟩ | ⟨rfl, rfl, rfl⟩ |
      ⟨rfl, rfl, rfl⟩ | ⟨rfl, rfl, rfl⟩ <;> decide
  refine ⟨hcode, ?_, fun h => ?_, fun h => ?_, raise_error_fields_restored b e info⟩
  · rw [raise_statusWord, hbit]
  · simp [raise_errCause, raise_errInfo, h]
  · simp [raise_errCause, raise_errInfo, h]

/-! ## irq -/

/-- Settles O40: `irq` is where STATUS and IRQ_EN meet as words, and outside bits 2 to 7 IRQ_EN reads 0. -/
theorem irqIsAnEnabledStickyBit : Obligations.IrqIsAnEnabledStickyBit := by
  refine ⟨fun b => ?_, rfl⟩
  rw [irq_iff_words_meet]
  constructor
  · intro hmeet
    by_contra hnone
    refine hmeet (BitVec.eq_of_getLsbD_eq fun k _ => ?_)
    rw [BitVec.getLsbD_and, BitVec.getLsbD_zero]
    by_cases hk : k < 2 ∨ 8 ≤ k
    · rw [toWord_reserved _ k hk, Bool.and_false]
    · rw [← Bool.not_eq_true, Bool.and_eq_true]
      exact fun hboth => hnone ⟨k, by omega, by omega, hboth⟩
  · rintro ⟨k, -, -, hset, henabled⟩ hzero
    have hbit := congrArg (BitVec.getLsbD · k) hzero
    simp [hset, henabled] at hbit

/-! ## The machine steps on -/

/-- With nothing presented, nothing happens (R903; assumption 12). -/
theorem step_nil {s : State} (h : s.env.agenda = []) : step s = .next s := by
  rw [step_eq_outcome, nextAction, h]
  rfl

/-- A reset pulse shorter than P_RST_CYCLES is refused (R900, I14). -/
theorem step_reset_short {s : State} {n : Nat} {rest : List Event} (h : s.env.agenda = .reset n :: rest)
    (hn : n < Config.pRstCycles) : step s = .refused .resetPulseTooShort := by
  rw [step_eq_outcome, nextAction, h]
  exact if_pos hn

/-- An engine request, asserted or not, answers and presents nothing (R331; assumption 5). -/
theorem engineCall_answers (w : BitVec 35) (f : Block → Word → Block) (s : State) :
    ∃ t, engineCall w f s = .next t ∧ t.env.agenda = s.env.agenda := by
  unfold engineCall
  split <;> exact ⟨_, rfl, rfl⟩

/-- A PWM request, asserted or not, answers and presents nothing (R340; assumption 5). -/
theorem pwmCall_answers (w : BitVec 24) (f : Block → Block) (s : State) :
    ∃ t, pwmCall w f s = .next t ∧ t.env.agenda = s.env.agenda := by
  unfold pwmCall
  split <;> exact ⟨_, rfl, rfl⟩

/-- A decoded write, with any strobes, answers and presents nothing. -/
theorem decodedWrite_answers (off : Offset) {strb : Strobe} {wdata : Word} {i : Instr} (s : State)
    (h : decodeWriteAt off strb wdata = .ok i) : ∃ t, exec i s = .next t ∧ t.env.agenda = s.env.agenda := by
  obtain ⟨t, ht, -, hagenda, -⟩ := write_effect off strb wdata i s h
  exact ⟨t, ht, hagenda⟩

/-- Every instruction answers a next state in every state, and presents nothing (R802). A command, a read of a register at
rest and a write of a read-only register compute to the completed access; the others have a condition of their own: TIMER's
read, the writes their strobes, the port requests the request lines. -/
theorem exec_answers (i : Instr) (s : State) : ∃ t, exec i s = .next t ∧ t.env.agenda = s.env.agenda := by
  cases i
  case rdTimer =>
    obtain ⟨t, ht, -, hagenda, -⟩ := rdTimer_effect (.read 0x020#12) s
    exact ⟨t, ht, hagenda⟩
  case wrCtrl => exact decodedWrite_answers 0x004#12 s rfl
  case wrStatus => exact decodedWrite_answers 0x008#12 s rfl
  case wrErrCause => exact decodedWrite_answers 0x00C#12 s rfl
  case wrIrqEn => exact decodedWrite_answers 0x014#12 s rfl
  case wrCfg => exact decodedWrite_answers 0x018#12 s rfl
  case wrPeriod => exact decodedWrite_answers 0x01C#12 s rfl
  case wrMissed => exact decodedWrite_answers 0x028#12 s rfl
  case wrSetpoint => exact decodedWrite_answers 0x02C#12 s rfl
  case wrData => exact decodedWrite_answers 0x030#12 s rfl
  case wrCmd => exact decodedWrite_answers 0x034#12 s rfl
  case eRefresh => exact engineCall_answers _ (fun b _ => b.refreshed) s
  case eCompute => exact engineCall_answers _ (fun b _ => b.computed) s
  case eSetTarget => exact engineCall_answers _ (fun b _ => b.targetSet) s
  case eGetVel | eGetOut | eGetRaw => exact engineCall_answers _ _ s
  case pwmWrite => exact pwmCall_answers _ _ s
  all_goals exact ⟨_, rfl, rfl⟩

/-- Settles O51: the step by the agent whose turn it is, of which only reset has a pulse that can be too short. -/
theorem onlyAShortResetStops : Obligations.OnlyAShortResetStops := by
  refine ⟨fun s hlong => ?_, exec_answers, fun s n rest ha hn => step_reset_short ha hn⟩
  cases ha : s.env.agenda with
  | nil => exact ⟨s, step_nil ha, ha⟩
  | cons ev rest =>
    cases ev with
    | reset n => exact ⟨_, step_reset ha (hlong _ _ ha), rfl⟩
    | host | timer | seq => exact step_answers ha rfl

end Sys2Proof.Machine
end

section
/-! SUPPORT. The word behind each decoded instruction: port by port, the decoder reads a word as the one well-formed
instruction whose encoding it is (R302, R321, R330, R340). -/

namespace Sys2Proof.Machine

/-! ## Each port's words -/

/-- R302's read column names each register by the offset its read is encoded with. -/
theorem wellFormed_encode_of_decodeReadAt {off : Offset} {i : Instr} (h : decodeReadAt off = .ok i) :
    i.wellFormed = true ∧ encode i = .host (.read off) := by
  unfold decodeReadAt at h
  split at h
  case h_33 => cases h
  all_goals cases h; exact ⟨rfl, rfl⟩

/-- R302's write column names each register by the offset its write is encoded with, and keeps the strobes and data. -/
theorem wellFormed_encode_of_decodeWriteAt {off : Offset} {strb : Strobe} {wdata : Word} {i : Instr}
    (h : decodeWriteAt off strb wdata = .ok i) : i.wellFormed = true ∧ encode i = .host (.write off strb wdata) := by
  unfold decodeWriteAt at h
  split at h
  case h_33 => cases h
  all_goals cases h; exact ⟨rfl, rfl⟩

/-- The alignment check only turns accesses away: what passes it is its column's (R203). -/
theorem wellFormed_encode_of_decodeAccess {a : Access} {i : Instr} (h : decodeAccess a = .ok i) :
    i.wellFormed = true ∧ encode i = .host a := by
  cases a with
  | read off => exact wellFormed_encode_of_decodeReadAt (decodeAccess_read_ok.mp h).2
  | write off strb wdata => exact wellFormed_encode_of_decodeWriteAt (decodeAccess_write_ok.mp h).2

/-- The fields of a command: where R321 gives W no window, only W = 0 is accepted, and elsewhere the window keeps W. -/
theorem wellFormed_encode_of_decodeCmdOp {op : BitVec 4} {w : BitVec 1} {i : Instr} (h : decodeCmdOp op w = .ok i) :
    i.wellFormed = true ∧ encode i = .cmd (cmdWord w op) := by
  unfold decodeCmdOp at h
  split at h
  case h_1 | h_5 | h_7 =>
    split at h
    next hw => subst hw; cases h; exact ⟨rfl, rfl⟩
    next => cases h
  case h_2 | h_3 | h_4 | h_6 =>
    cases h
    simp [Instr.wellFormed, encode]
  case h_8 => cases h

/-- An accepted command word has Z = 0, so its W and OP fields are the whole of it (R320). -/
theorem wellFormed_encode_of_decodeCmd {c : Word} {i : Instr} (h : decodeCmd c = .ok i) :
    i.wellFormed = true ∧ encode i = .cmd c := by
  by_cases hz : c.extractLsb' 5 27 = 0#27
  · rw [← cmdWord_of_fields c hz, decodeCmd_cmdWord] at h
    rw [← cmdWord_of_fields c hz]
    exact wellFormed_encode_of_decodeCmdOp h
  · cases (if_neg hz).symm.trans h

/-- Only SET_TARGET is decoded with an argument, so every engine request decoded is well formed (R330). -/
theorem wellFormed_encode_of_decodeEng {w : BitVec 35} {i : Instr} (h : decodeEng w = .ok i) :
    i.wellFormed = true ∧ encode i = .eng w := by
  obtain ⟨henc, ⟨d, rfl⟩ | hi⟩ := decodeEng_cases h
  · exact ⟨rfl, henc⟩
  · have hwf : ∀ j ∈ [Instr.eRefresh 0#32, .eCompute 0#32, .eGetVel 0#32, .eGetOut 0#32, .eGetRaw 0#32],
        j.wellFormed = true := by decide
    exact ⟨hwf i hi, henc⟩

/-! ## The obligation -/

/-- Settles O2: by the port the word travels on. -/
theorem encodeOfDecodeGivesWord : Obligations.EncodeOfDecodeGivesWord := by
  intro p i h
  cases p with
  | host a => exact wellFormed_encode_of_decodeAccess h
  | cmd c => exact wellFormed_encode_of_decodeCmd h
  | eng w => exact wellFormed_encode_of_decodeEng h
  | pwm w =>
    have henc : encode i = .pwm w := encode_of_decodePwm h
    cases h
    exact ⟨rfl, henc⟩

end Sys2Proof.Machine
end
